-- ==== Sys2Proof/Word.lean ====
section
/-! DEFINITION. The words of the VAX (R8): byte, word, longword, quadword. -/

namespace Sys2Proof

/-- A byte, 8 bits (R8). -/
abbrev Byte := BitVec 8

/-- A word, 16 bits (R8): the vector control word and the register number operand. -/
abbrev Word := BitVec 16

/-- A longword, 32 bits (R8): addresses, general registers, processor registers. -/
abbrev Long := BitVec 32

/-- A quadword, 64 bits (R8): one vector element. -/
abbrev Quad := BitVec 64

/-- The low longword of a quadword, bits <31:0> (R7). -/
abbrev Quad.lo (q : Quad) : Long := q.extractLsb' 0 32

/-- The high longword of a quadword, bits <63:32> (R7). -/
abbrev Quad.hi (q : Quad) : Long := q.extractLsb' 32 32

/-- A quadword from its two longwords, the high one first (R12). -/
abbrev Quad.mk (hi lo : Long) : Quad := hi ++ lo

end Sys2Proof
end

