-- ==== Sys2Proof/Specifier.lean ====
section
/-! DEFINITION. VAX operand specifiers (R134, PRESUMED in its entirety by the spec; log entry 17). -/

namespace Sys2Proof

/-- A general register number, 0 to 15 (R50). -/
abbrev RegNo := BitVec 4

/-- The specifiers that name a memory location (R134, modes 6 to F). -/
inductive Base
  /-- mode 6, `(Rn)` -/
  | deferred (n : RegNo)
  /-- mode 7, `-(Rn)` -/
  | autodec (n : RegNo)
  /-- mode 8, `(Rn)+`, n not 15 -/
  | autoinc (n : RegNo)
  /-- mode 9, `@(Rn)+`, n not 15 -/
  | autoincDef (n : RegNo)
  /-- mode 9F, `@#addr` -/
  | absolute (a : Long)
  /-- mode A, `d(Rn)` -/
  | disp8 (n : RegNo) (d : Byte)
  /-- mode B, `@d(Rn)` -/
  | disp8Def (n : RegNo) (d : Byte)
  /-- mode C -/
  | disp16 (n : RegNo) (d : Word)
  /-- mode D -/
  | disp16Def (n : RegNo) (d : Word)
  /-- mode E -/
  | disp32 (n : RegNo) (d : Long)
  /-- mode F -/
  | disp32Def (n : RegNo) (d : Long)
  deriving DecidableEq, Repr

/-- One operand specifier of the instruction stream (R134). -/
inductive Spec
  /-- modes 0 to 3: the 6-bit literal -/
  | literal (v : BitVec 6)
  /-- mode 5: register Rn -/
  | reg (n : RegNo)
  /-- mode 8F: the constant that follows, of the operand's size -/
  | immediate (v : Quad)
  | mem (b : Base)
  /-- mode 4: indexed by Rx -/
  | indexed (x : RegNo) (b : Base)
  deriving DecidableEq, Repr

/-- Operand access and size (R9, R133): the five that occur. -/
inductive Access
  | rw
  | rl
  | rq
  | ab
  | wl
  deriving DecidableEq, Repr

/-- The operand's size in bytes (R134). The base address is of byte context (R148). -/
def Access.size : Access → Nat
  | .rw => 2
  | .rl => 4
  | .rq => 8
  | .ab => 1
  | .wl => 4

/-- The register an autoincrement, autodecrement or autoincrement deferred mode modifies (R134, R144). -/
def Base.modifies : Base → Option RegNo
  | .autodec n | .autoinc n | .autoincDef n => some n
  | _ => none

/-- The register a specifier's addressing mode modifies (R144). -/
def Spec.modifies : Spec → Option RegNo
  | .mem b | .indexed _ b => b.modifies
  | _ => none

/-- How many bytes follow the mode byte of a memory specifier (R134). -/
def Base.extra : Base → Nat
  | .absolute _ | .disp32 .. | .disp32Def .. => 4
  | .disp8 .. | .disp8Def .. => 1
  | .disp16 .. | .disp16Def .. => 2
  | _ => 0

/-- The length of a specifier in bytes (R132, R134). -/
def Spec.length (size : Nat) : Spec → Nat
  | .literal _ | .reg _ => 1
  | .immediate _ => 1 + size
  | .mem b => 1 + b.extra
  | .indexed _ b => 2 + b.extra

end Sys2Proof
end

