-- ==== Sys2Proof/Config.lean ====
section
/-! DEFINITION. What an implementation fixes (the parameters of R6) and the free values (R12 `draw_N`). -/

namespace Sys2Proof

/-- A FREE VALUE (R12 `draw_N`): nothing in Lean can evaluate it. The model applies it to a counter that every
operation advances, so each UNPREDICTABLE value is a value of its own (log entry 5). -/
opaque Config.draw : Nat → BitVec 64

/-- How vector memory-management exceptions are handled (R6 MM_METHOD; R412, R413). -/
inductive MmMethod
  | sync
  | async
  deriving DecidableEq, Repr

/-- How an illegal vector opcode is reported (R6 ILLEGAL_OPCODE_REPORT; R405). `ivo` carries the operands that the
scalar processor takes the illegal instruction to have, which R405 says it needs. -/
inductive IllegalReport
  | rsvdInstrFault
  | ivo (operands : List Access)
  deriving DecidableEq, Repr

/-- How a hardware error reaches the scalar processor (R6 HW_ERROR_REPORT; R430). -/
inductive HwErrorReport
  | machineCheck
  | imp
  deriving DecidableEq, Repr

/-- Whether the vector processor has its own translation buffer (R6 VECTOR_TB; R112). -/
inductive VectorTb
  | own
  | shared
  deriving DecidableEq, Repr

/-- Whether the vector processor keeps its own copies of the memory-management registers (R6 VECTOR_MM_REGS; R112). -/
inductive VectorMmRegs
  | ownCopies
  | scalarMmu
  deriving DecidableEq, Repr

/-- Effect of MTPR/MFPR misuse on vector IPRs (R6 BAD_IPR_ACCESS; R386). -/
inductive BadIprAccess
  | rsvdOperandFault
  | undefined
  deriving DecidableEq, Repr

/-- The register numbers of MFVP, MTVP and VSYNC (R350; parameter REGNUM of R6, PRESUMED defaults, log entry 23). -/
structure RegNums where
  vcr : Word := 0
  vlr : Word := 1
  vmrlo : Word := 2
  vmrhi : Word := 3
  sync : Word := 4
  msync : Word := 5
  vsync : Word := 0
  deriving DecidableEq, Repr

/-- The bit positions of the memory-management fault parameter (R411; FAULT_PARAM_BITS of R6, PRESUMED, log entry 16). -/
structure FaultBits where
  lengthBit : Nat := 0
  pteBit : Nat := 1
  modifyBit : Nat := 2
  valBit : Nat := 3
  vioBit : Nat := 4
  vasBit : Nat := 5
  deriving DecidableEq, Repr

/-- The system control block offset of the vector processor disabled fault, fixed by the architecture (R6, R87,
R403). -/
def scbDisabled : Nat := 0x68

/-- The system control block offsets that the source does not give (R87, R401), PRESUMED (log entry 15). -/
structure ScbOffsets where
  machineCheck : Nat := 0x04
  reservedInstr : Nat := 0x10
  reservedOperand : Nat := 0x18
  reservedMode : Nat := 0x1C
  accessViolation : Nat := 0x20
  translationNotValid : Nat := 0x24
  modify : Nat := 0x3C
  deriving DecidableEq, Repr

/-- The numbers of the scalar internal processor registers the vector architecture names (R393). PRESUMED from the
VAX family (log entry 12); SPTEP has no number that is known. -/
structure ScalarIprs where
  p0br : Nat := 0x08
  p0lr : Nat := 0x09
  p1br : Nat := 0x0A
  p1lr : Nat := 0x0B
  sbr : Nat := 0x0C
  slr : Nat := 0x0D
  scbb : Nat := 0x11
  mapen : Nat := 0x38
  tbia : Nat := 0x39
  tbis : Nat := 0x3A
  sptep : Option Nat := none
  deriving DecidableEq, Repr

/-- The parameters of R6, one field each. It is plain data inside the state that no step changes, so a statement
about every state is a statement about every implementation (log entry 1). -/
structure Config where
  vpPresent : Bool := true
  mmMethod : MmMethod := .async
  /-- VSAR_STATE_LEN, in bytes (R6). -/
  vsarStateLen : Nat := 8
  implementsImp : Bool := true
  implementsIvo : Bool := true
  illegalReport : IllegalReport := .rsvdInstrFault
  /-- opcodes (second byte) that are reported in a way of their own: the way may differ per opcode (R6, R405) -/
  illegalReports : List (Byte × IllegalReport) := []
  hwErrorReport : HwErrorReport := .imp
  hasVtbia : Bool := true
  vectorTb : VectorTb := .own
  vectorMmRegs : VectorMmRegs := .ownCopies
  setsVio : Bool := true
  modifyFault : Bool := false
  badIprAccess : BadIprAccess := .rsvdOperandFault
  /-- QUEUE_DEPTH: none is unbounded (R173). A depth below 1 acts as 1. -/
  queueDepth : Option Nat := none
  /-- CHAINING: an instruction may use elements of an unfinished one (R187). -/
  chaining : Bool := true
  /-- IMPLEMENTS_MI: a hint, without effect (R202, D22); nothing reads it. -/
  implementsMi : Bool := false
  /-- ELEMENT_ATOMIC for longwords (R86): a longword element is one access, else it may be done byte by byte. -/
  longAtomic : Bool := true
  /-- ELEMENT_ATOMIC for quadwords (R86): a quadword element is one access, else it may be done in the parts that
  longwords allow, in any order. -/
  quadAtomic : Bool := false
  regnum : RegNums := {}
  faultBits : FaultBits := {}
  scb : ScbOffsets := {}
  iprs : ScalarIprs := {}
  /-- IsIOSpace (R88): physical ranges, first address and length. -/
  ioSpace : List (Nat × Nat) := []
  /-- Where page tables lie (R89): physical ranges, first address and length. -/
  pageTables : List (Nat × Nat) := []
  deriving DecidableEq, Repr

/-- The implementation the machine has at reset (log entry 1): the preferred or recommended choice where the source
names one (R405, R386), a DESIGN CHOICE elsewhere. -/
def Config.default : Config := {}

/-- The asynchronous method is in use (R413), so VSAR exists (R6 HAS_VSAR). -/
def Config.isAsync (c : Config) : Bool := decide (c.mmMethod = .async)

/-- How one illegal opcode is reported (R405). -/
def Config.reportOf (c : Config) (opcode : Byte) : IllegalReport :=
  match c.illegalReports.find? (fun x => decide (x.1 = opcode)) with
  | some x => x.2
  | none => c.illegalReport

end Sys2Proof
end

