-- ==== Sys2Proof/ScalarSyntax.lean ====
section
/-! DEFINITION. The scalar instructions that reach the vector processor's registers or leave a handler (R370, R435).
They are no rows of the opcode table; `step` runs them (log entries 42 and 14). -/

namespace Sys2Proof

/-- MTPR and MFPR (R370, encodings PRESUMED), REI (R435, B18). -/
inductive ScalarInstr
  /-- DA: `MTPR src.rl, procreg.rl` -/
  | mtpr (src procreg : Spec)
  /-- DB: `MFPR procreg.rl, dst.wl` -/
  | mfpr (procreg dst : Spec)
  /-- 02: `REI` -/
  | rei
  deriving DecidableEq, Repr

end Sys2Proof
end

