-- ==== Sys2Proof/Syntax.lean ====
section
/-! DEFINITION. The abstract syntax: one constructor for every row of spec/opcode_table.json (R3, R149, R154). -/

namespace Sys2Proof

/-- The vector instructions. Every constructor carries its operand specifiers in instruction-stream order (R130);
the 63 opcodes of R149 come first, then the forms of R156, R157 and R158, which share an opcode with one of them and fix its
compare function, its convert function or its register number (log entry 24). -/
inductive Instr
  /-- MFVP (31FD, R351): regnum.rw, dst.wl -/
  | mfvp (regnum dst : Spec)
  /-- VLDL (34FD, R215): cntrl.rw, base.ab, stride.rl -/
  | vldl (cntrl base stride : Spec)
  /-- VGATHL (35FD, R217): cntrl.rw, base.ab -/
  | vgathl (cntrl base : Spec)
  /-- VLDQ (36FD, R216): cntrl.rw, base.ab, stride.rl -/
  | vldq (cntrl base stride : Spec)
  /-- VGATHQ (37FD, R218): cntrl.rw, base.ab -/
  | vgathq (cntrl base : Spec)
  /-- VVADDL (80FD, R231): cntrl.rw -/
  | vvaddl (cntrl : Spec)
  /-- VSADDL (81FD, R232): cntrl.rw, addend.rl -/
  | vsaddl (cntrl addend : Spec)
  /-- VVADDG (82FD, R284): cntrl.rw -/
  | vvaddg (cntrl : Spec)
  /-- VSADDG (83FD, R285): cntrl.rw, addend.rq -/
  | vsaddg (cntrl addend : Spec)
  /-- VVADDF (84FD, R280): cntrl.rw -/
  | vvaddf (cntrl : Spec)
  /-- VSADDF (85FD, R281): cntrl.rw, addend.rl -/
  | vsaddf (cntrl addend : Spec)
  /-- VVADDD (86FD, R282): cntrl.rw -/
  | vvaddd (cntrl : Spec)
  /-- VSADDD (87FD, R283): cntrl.rw, addend.rq -/
  | vsaddd (cntrl addend : Spec)
  /-- VVSUBL (88FD, R238): cntrl.rw -/
  | vvsubl (cntrl : Spec)
  /-- VSSUBL (89FD, R239): cntrl.rw, min.rl -/
  | vssubl (cntrl min : Spec)
  /-- VVSUBG (8AFD, R290): cntrl.rw -/
  | vvsubg (cntrl : Spec)
  /-- VSSUBG (8BFD, R291): cntrl.rw, min.rq -/
  | vssubg (cntrl min : Spec)
  /-- VVSUBF (8CFD, R286): cntrl.rw -/
  | vvsubf (cntrl : Spec)
  /-- VSSUBF (8DFD, R287): cntrl.rw, min.rl -/
  | vssubf (cntrl min : Spec)
  /-- VVSUBD (8EFD, R288): cntrl.rw -/
  | vvsubd (cntrl : Spec)
  /-- VSSUBD (8FFD, R289): cntrl.rw, min.rq -/
  | vssubd (cntrl min : Spec)
  /-- VSTL (9CFD, R219): cntrl.rw, base.ab, stride.rl -/
  | vstl (cntrl base stride : Spec)
  /-- VSCATL (9DFD, R221): cntrl.rw, base.ab -/
  | vscatl (cntrl base : Spec)
  /-- VSTQ (9EFD, R220): cntrl.rw, base.ab, stride.rl -/
  | vstq (cntrl base stride : Spec)
  /-- VSCATQ (9FFD, R222): cntrl.rw, base.ab -/
  | vscatq (cntrl base : Spec)
  /-- VVMULL (A0FD, R236): cntrl.rw -/
  | vvmull (cntrl : Spec)
  /-- VSMULL (A1FD, R237): cntrl.rw, mulr.rl -/
  | vsmull (cntrl mulr : Spec)
  /-- VVMULG (A2FD, R296): cntrl.rw -/
  | vvmulg (cntrl : Spec)
  /-- VSMULG (A3FD, R297): cntrl.rw, mulr.rq -/
  | vsmulg (cntrl mulr : Spec)
  /-- VVMULF (A4FD, R292): cntrl.rw -/
  | vvmulf (cntrl : Spec)
  /-- VSMULF (A5FD, R293): cntrl.rw, mulr.rl -/
  | vsmulf (cntrl mulr : Spec)
  /-- VVMULD (A6FD, R294): cntrl.rw -/
  | vvmuld (cntrl : Spec)
  /-- VSMULD (A7FD, R295): cntrl.rw, mulr.rq -/
  | vsmuld (cntrl mulr : Spec)
  /-- VSYNC (A8FD, R365): regnum.rw -/
  | vsync (regnum : Spec)
  /-- MTVP (A9FD, R360): regnum.rw, src.rl -/
  | mtvp (regnum src : Spec)
  /-- VVDIVG (AAFD, R302): cntrl.rw -/
  | vvdivg (cntrl : Spec)
  /-- VSDIVG (ABFD, R303): cntrl.rw, divd.rq -/
  | vsdivg (cntrl divd : Spec)
  /-- VVDIVF (ACFD, R298): cntrl.rw -/
  | vvdivf (cntrl : Spec)
  /-- VSDIVF (ADFD, R299): cntrl.rw, divd.rl -/
  | vsdivf (cntrl divd : Spec)
  /-- VVDIVD (AEFD, R300): cntrl.rw -/
  | vvdivd (cntrl : Spec)
  /-- VSDIVD (AFFD, R301): cntrl.rw, divd.rq -/
  | vsdivd (cntrl divd : Spec)
  /-- VVCMPL (C0FD, R234): cntrl.rw -/
  | vvcmpl (cntrl : Spec)
  /-- VSCMPL (C1FD, R235): cntrl.rw, src.rl -/
  | vscmpl (cntrl src : Spec)
  /-- VVCMPG (C2FD, R317): cntrl.rw -/
  | vvcmpg (cntrl : Spec)
  /-- VSCMPG (C3FD, R318): cntrl.rw, src.rq -/
  | vscmpg (cntrl src : Spec)
  /-- VVCMPF (C4FD, R313): cntrl.rw -/
  | vvcmpf (cntrl : Spec)
  /-- VSCMPF (C5FD, R314): cntrl.rw, src.rl -/
  | vscmpf (cntrl src : Spec)
  /-- VVCMPD (C6FD, R315): cntrl.rw -/
  | vvcmpd (cntrl : Spec)
  /-- VSCMPD (C7FD, R316): cntrl.rw, src.rq -/
  | vscmpd (cntrl src : Spec)
  /-- VVBISL (C8FD, R251): cntrl.rw -/
  | vvbisl (cntrl : Spec)
  /-- VSBISL (C9FD, R254): cntrl.rw, src.rl -/
  | vsbisl (cntrl src : Spec)
  /-- VVBICL (CCFD, R253): cntrl.rw -/
  | vvbicl (cntrl : Spec)
  /-- VSBICL (CDFD, R256): cntrl.rw, src.rl -/
  | vsbicl (cntrl src : Spec)
  /-- VVSRLL (E0FD, R258): cntrl.rw -/
  | vvsrll (cntrl : Spec)
  /-- VSSRLL (E1FD, R260): cntrl.rw, cnt.rl -/
  | vssrll (cntrl cnt : Spec)
  /-- VVSLLL (E4FD, R259): cntrl.rw -/
  | vvslll (cntrl : Spec)
  /-- VSSLLL (E5FD, R261): cntrl.rw, cnt.rl -/
  | vsslll (cntrl cnt : Spec)
  /-- VVXORL (E8FD, R252): cntrl.rw -/
  | vvxorl (cntrl : Spec)
  /-- VSXORL (E9FD, R255): cntrl.rw, src.rl -/
  | vsxorl (cntrl src : Spec)
  /-- VVCVT (ECFD, R320): cntrl.rw -/
  | vvcvt (cntrl : Spec)
  /-- IOTA (EDFD, R343): cntrl.rw, stride.rl -/
  | iota (cntrl stride : Spec)
  /-- VVMERGE (EEFD, R341): cntrl.rw -/
  | vvmerge (cntrl : Spec)
  /-- VSMERGE (EFFD, R342): cntrl.rw, src.rq -/
  | vsmerge (cntrl src : Spec)
  /-- VVCVTLF (ECFD, R323, a form of VVCVT): cntrl.rw -/
  | vvcvtlf (cntrl : Spec)
  /-- VVCVTLD (ECFD, R324, a form of VVCVT): cntrl.rw -/
  | vvcvtld (cntrl : Spec)
  /-- VVCVTLG (ECFD, R325, a form of VVCVT): cntrl.rw -/
  | vvcvtlg (cntrl : Spec)
  /-- VVCVTFL (ECFD, R326, a form of VVCVT): cntrl.rw -/
  | vvcvtfl (cntrl : Spec)
  /-- VVCVTRFL (ECFD, R327, a form of VVCVT): cntrl.rw -/
  | vvcvtrfl (cntrl : Spec)
  /-- VVCVTFD (ECFD, R328, a form of VVCVT): cntrl.rw -/
  | vvcvtfd (cntrl : Spec)
  /-- VVCVTFG (ECFD, R329, a form of VVCVT): cntrl.rw -/
  | vvcvtfg (cntrl : Spec)
  /-- VVCVTDL (ECFD, R330, a form of VVCVT): cntrl.rw -/
  | vvcvtdl (cntrl : Spec)
  /-- VVCVTDF (ECFD, R331, a form of VVCVT): cntrl.rw -/
  | vvcvtdf (cntrl : Spec)
  /-- VVCVTRDL (ECFD, R332, a form of VVCVT): cntrl.rw -/
  | vvcvtrdl (cntrl : Spec)
  /-- VVCVTGL (ECFD, R333, a form of VVCVT): cntrl.rw -/
  | vvcvtgl (cntrl : Spec)
  /-- VVCVTGF (ECFD, R334, a form of VVCVT): cntrl.rw -/
  | vvcvtgf (cntrl : Spec)
  /-- VVCVTRGL (ECFD, R335, a form of VVCVT): cntrl.rw -/
  | vvcvtrgl (cntrl : Spec)
  /-- VVGTRL (C0FD, R234, a form of VVCMPL): cntrl.rw -/
  | vvgtrl (cntrl : Spec)
  /-- VVEQLL (C0FD, R234, a form of VVCMPL): cntrl.rw -/
  | vveqll (cntrl : Spec)
  /-- VVLSSL (C0FD, R234, a form of VVCMPL): cntrl.rw -/
  | vvlssl (cntrl : Spec)
  /-- VVLEQL (C0FD, R234, a form of VVCMPL): cntrl.rw -/
  | vvleql (cntrl : Spec)
  /-- VVNEQL (C0FD, R234, a form of VVCMPL): cntrl.rw -/
  | vvneql (cntrl : Spec)
  /-- VVGEQL (C0FD, R234, a form of VVCMPL): cntrl.rw -/
  | vvgeql (cntrl : Spec)
  /-- VSGTRL (C1FD, R235, a form of VSCMPL): cntrl.rw, src.rl -/
  | vsgtrl (cntrl src : Spec)
  /-- VSEQLL (C1FD, R235, a form of VSCMPL): cntrl.rw, src.rl -/
  | vseqll (cntrl src : Spec)
  /-- VSLSSL (C1FD, R235, a form of VSCMPL): cntrl.rw, src.rl -/
  | vslssl (cntrl src : Spec)
  /-- VSLEQL (C1FD, R235, a form of VSCMPL): cntrl.rw, src.rl -/
  | vsleql (cntrl src : Spec)
  /-- VSNEQL (C1FD, R235, a form of VSCMPL): cntrl.rw, src.rl -/
  | vsneql (cntrl src : Spec)
  /-- VSGEQL (C1FD, R235, a form of VSCMPL): cntrl.rw, src.rl -/
  | vsgeql (cntrl src : Spec)
  /-- VVGTRF (C4FD, R313, a form of VVCMPF): cntrl.rw -/
  | vvgtrf (cntrl : Spec)
  /-- VVEQLF (C4FD, R313, a form of VVCMPF): cntrl.rw -/
  | vveqlf (cntrl : Spec)
  /-- VVLSSF (C4FD, R313, a form of VVCMPF): cntrl.rw -/
  | vvlssf (cntrl : Spec)
  /-- VVLEQF (C4FD, R313, a form of VVCMPF): cntrl.rw -/
  | vvleqf (cntrl : Spec)
  /-- VVNEQF (C4FD, R313, a form of VVCMPF): cntrl.rw -/
  | vvneqf (cntrl : Spec)
  /-- VVGEQF (C4FD, R313, a form of VVCMPF): cntrl.rw -/
  | vvgeqf (cntrl : Spec)
  /-- VSGTRF (C5FD, R314, a form of VSCMPF): cntrl.rw, src.rl -/
  | vsgtrf (cntrl src : Spec)
  /-- VSEQLF (C5FD, R314, a form of VSCMPF): cntrl.rw, src.rl -/
  | vseqlf (cntrl src : Spec)
  /-- VSLSSF (C5FD, R314, a form of VSCMPF): cntrl.rw, src.rl -/
  | vslssf (cntrl src : Spec)
  /-- VSLEQF (C5FD, R314, a form of VSCMPF): cntrl.rw, src.rl -/
  | vsleqf (cntrl src : Spec)
  /-- VSNEQF (C5FD, R314, a form of VSCMPF): cntrl.rw, src.rl -/
  | vsneqf (cntrl src : Spec)
  /-- VSGEQF (C5FD, R314, a form of VSCMPF): cntrl.rw, src.rl -/
  | vsgeqf (cntrl src : Spec)
  /-- VVGTRD (C6FD, R315, a form of VVCMPD): cntrl.rw -/
  | vvgtrd (cntrl : Spec)
  /-- VVEQLD (C6FD, R315, a form of VVCMPD): cntrl.rw -/
  | vveqld (cntrl : Spec)
  /-- VVLSSD (C6FD, R315, a form of VVCMPD): cntrl.rw -/
  | vvlssd (cntrl : Spec)
  /-- VVLEQD (C6FD, R315, a form of VVCMPD): cntrl.rw -/
  | vvleqd (cntrl : Spec)
  /-- VVNEQD (C6FD, R315, a form of VVCMPD): cntrl.rw -/
  | vvneqd (cntrl : Spec)
  /-- VVGEQD (C6FD, R315, a form of VVCMPD): cntrl.rw -/
  | vvgeqd (cntrl : Spec)
  /-- VSGTRD (C7FD, R316, a form of VSCMPD): cntrl.rw, src.rq -/
  | vsgtrd (cntrl src : Spec)
  /-- VSEQLD (C7FD, R316, a form of VSCMPD): cntrl.rw, src.rq -/
  | vseqld (cntrl src : Spec)
  /-- VSLSSD (C7FD, R316, a form of VSCMPD): cntrl.rw, src.rq -/
  | vslssd (cntrl src : Spec)
  /-- VSLEQD (C7FD, R316, a form of VSCMPD): cntrl.rw, src.rq -/
  | vsleqd (cntrl src : Spec)
  /-- VSNEQD (C7FD, R316, a form of VSCMPD): cntrl.rw, src.rq -/
  | vsneqd (cntrl src : Spec)
  /-- VSGEQD (C7FD, R316, a form of VSCMPD): cntrl.rw, src.rq -/
  | vsgeqd (cntrl src : Spec)
  /-- VVGTRG (C2FD, R317, a form of VVCMPG): cntrl.rw -/
  | vvgtrg (cntrl : Spec)
  /-- VVEQLG (C2FD, R317, a form of VVCMPG): cntrl.rw -/
  | vveqlg (cntrl : Spec)
  /-- VVLSSG (C2FD, R317, a form of VVCMPG): cntrl.rw -/
  | vvlssg (cntrl : Spec)
  /-- VVLEQG (C2FD, R317, a form of VVCMPG): cntrl.rw -/
  | vvleqg (cntrl : Spec)
  /-- VVNEQG (C2FD, R317, a form of VVCMPG): cntrl.rw -/
  | vvneqg (cntrl : Spec)
  /-- VVGEQG (C2FD, R317, a form of VVCMPG): cntrl.rw -/
  | vvgeqg (cntrl : Spec)
  /-- VSGTRG (C3FD, R318, a form of VSCMPG): cntrl.rw, src.rq -/
  | vsgtrg (cntrl src : Spec)
  /-- VSEQLG (C3FD, R318, a form of VSCMPG): cntrl.rw, src.rq -/
  | vseqlg (cntrl src : Spec)
  /-- VSLSSG (C3FD, R318, a form of VSCMPG): cntrl.rw, src.rq -/
  | vslssg (cntrl src : Spec)
  /-- VSLEQG (C3FD, R318, a form of VSCMPG): cntrl.rw, src.rq -/
  | vsleqg (cntrl src : Spec)
  /-- VSNEQG (C3FD, R318, a form of VSCMPG): cntrl.rw, src.rq -/
  | vsneqg (cntrl src : Spec)
  /-- VSGEQG (C3FD, R318, a form of VSCMPG): cntrl.rw, src.rq -/
  | vsgeqg (cntrl src : Spec)
  /-- MFVCR (31FD, R352, a form of MFVP): regnum.rw, dst.wl -/
  | mfvcr (regnum dst : Spec)
  /-- MFVLR (31FD, R353, a form of MFVP): regnum.rw, dst.wl -/
  | mfvlr (regnum dst : Spec)
  /-- MFVMRLO (31FD, R358, a form of MFVP): regnum.rw, dst.wl -/
  | mfvmrlo (regnum dst : Spec)
  /-- MFVMRHI (31FD, R359, a form of MFVP): regnum.rw, dst.wl -/
  | mfvmrhi (regnum dst : Spec)
  /-- SYNC (31FD, R356, a form of MFVP): regnum.rw, dst.wl -/
  | sync (regnum dst : Spec)
  /-- MSYNC (31FD, R357, a form of MFVP): regnum.rw, dst.wl -/
  | msync (regnum dst : Spec)
  /-- MTVCR (A9FD, R361, a form of MTVP): regnum.rw, src.rl -/
  | mtvcr (regnum src : Spec)
  /-- MTVLR (A9FD, R362, a form of MTVP): regnum.rw, src.rl -/
  | mtvlr (regnum src : Spec)
  /-- MTVMRLO (A9FD, R363, a form of MTVP): regnum.rw, src.rl -/
  | mtvmrlo (regnum src : Spec)
  /-- MTVMRHI (A9FD, R364, a form of MTVP): regnum.rw, src.rl -/
  | mtvmrhi (regnum src : Spec)
  deriving DecidableEq, Repr

end Sys2Proof
end

