-- ==== Sys2Proof/Decode.lean ====
section
/-! DEFINITION. Decoding, total on any bytes and rejecting by name, then the encoder (R130 to R134, R149). -/

namespace Sys2Proof

/-- Why bytes are no instruction of the model. -/
inductive DecodeError
  /-- the bytes end inside the instruction -/
  | truncated
  /-- the first byte is no vector opcode's and no scalar instruction the model has (R5) -/
  | scalarOpcode (b : Byte)
  /-- FD and a second byte that no vector function is assigned to (R150) -/
  | illegalVectorOpcode (b : Byte)
  /-- an operand specifier whose addressing mode is reserved (R407) -/
  | reservedMode
  /-- an index specifier over an immediate constant, to which the spec gives no meaning (log entry 19) -/
  | indexedImmediate
  deriving DecidableEq, Repr

/-- What the bytes stand for: a vector instruction or one of the scalar instructions of R370 and R435. -/
inductive Decoded
  | vector (i : Instr)
  | scalar (i : ScalarInstr)
  deriving DecidableEq, Repr

/-- The little-endian number of the first `n` bytes, and the bytes that follow (R82, R134). -/
def takeLE : Nat → List Byte → Option (Nat × List Byte)
  | 0, bs => some (0, bs)
  | _ + 1, [] => none
  | n + 1, b :: bs =>
    match takeLE n bs with
    | some (v, rest) => some (b.toNat + 256 * v, rest)
    | none => none

/-- A number as `n` bytes, the least significant first (R82). -/
def bytesLE : Nat → Nat → List Byte
  | 0, _ => []
  | n + 1, v => BitVec.ofNat 8 v :: bytesLE n (v / 256)

/-- A memory specifier's constant (address or displacement) of `n` bytes, as a number. -/
def withConstant (n : Nat) (bs : List Byte) (f : Nat → Base) : Except DecodeError (Base × List Byte) :=
  match takeLE n bs with
  | some (v, rest) => .ok (f v, rest)
  | none => .error .truncated

/-- The memory specifiers of R134: `b` is the mode byte, `bs` what follows. Mode 8F is the caller's, and under an
index byte it has no meaning (log entry 19). That a literal, a register or another index byte under an index byte is a
reserved addressing mode is PRESUMED: R134 and R407 do not say which specifiers are (log entry 19). -/
def parseBase (b : Byte) (bs : List Byte) : Except DecodeError (Base × List Byte) :=
  let n : RegNo := b.extractLsb' 0 4
  match b.toNat / 16 with
  | 6 => .ok (.deferred n, bs)
  | 7 => .ok (.autodec n, bs)
  | 8 => if n = 15 then .error .indexedImmediate else .ok (.autoinc n, bs)
  | 9 => if n = 15 then withConstant 4 bs fun v => .absolute (BitVec.ofNat 32 v) else .ok (.autoincDef n, bs)
  | 10 => withConstant 1 bs fun v => .disp8 n (BitVec.ofNat 8 v)
  | 11 => withConstant 1 bs fun v => .disp8Def n (BitVec.ofNat 8 v)
  | 12 => withConstant 2 bs fun v => .disp16 n (BitVec.ofNat 16 v)
  | 13 => withConstant 2 bs fun v => .disp16Def n (BitVec.ofNat 16 v)
  | 14 => withConstant 4 bs fun v => .disp32 n (BitVec.ofNat 32 v)
  | 15 => withConstant 4 bs fun v => .disp32Def n (BitVec.ofNat 32 v)
  | _ => .error .reservedMode

/-- One operand specifier for an operand of `size` bytes (R134). -/
def parseSpec (size : Nat) : List Byte → Except DecodeError (Spec × List Byte)
  | [] => .error .truncated
  | b :: bs =>
    let n : RegNo := b.extractLsb' 0 4
    if b.toNat < 64 then .ok (.literal (b.extractLsb' 0 6), bs)
    else if b.toNat / 16 = 4 then
      match bs with
      | [] => .error .truncated
      | b' :: bs' =>
        match parseBase b' bs' with
        | .ok (base, rest) => .ok (.indexed n base, rest)
        | .error e => .error e
    else if b.toNat / 16 = 5 then .ok (.reg n, bs)
    else if b = 0x8F then
      match takeLE size bs with
      | some (v, rest) => .ok (.immediate (BitVec.ofNat 64 v), rest)
      | none => .error .truncated
    else
      match parseBase b bs with
      | .ok (base, rest) => .ok (.mem base, rest)
      | .error e => .error e

/-- The specifiers of an instruction, in stream order (R130, R159). -/
def parseSpecs : List Access → List Byte → Except DecodeError (List Spec × List Byte)
  | [], bs => .ok ([], bs)
  | a :: as, bs =>
    match parseSpec a.size bs with
    | .error e => .error e
    | .ok (sp, rest) =>
      match parseSpecs as rest with
      | .error e => .error e
      | .ok (sps, rest') => .ok (sp :: sps, rest')

/-- The operands of each vector opcode, by its second byte (R149); none where no function is assigned (R150). -/
def opcodeAccesses (op : Nat) : Option (List Access) :=
  match op with
  | 0x31 => some [.rw, .wl]
  | 0x34 | 0x36 | 0x9C | 0x9E => some [.rw, .ab, .rl]
  | 0x35 | 0x37 | 0x9D | 0x9F => some [.rw, .ab]
  | 0x80 | 0x82 | 0x84 | 0x86 | 0x88 | 0x8A | 0x8C | 0x8E | 0xA0 | 0xA2
  | 0xA4 | 0xA6 | 0xA8 | 0xAA | 0xAC | 0xAE | 0xC0 | 0xC2 | 0xC4 | 0xC6
  | 0xC8 | 0xCC | 0xE0 | 0xE4 | 0xE8 | 0xEC | 0xEE => some [.rw]
  | 0x81 | 0x85 | 0x89 | 0x8D | 0xA1 | 0xA5 | 0xA9 | 0xAD | 0xC1 | 0xC5
  | 0xC9 | 0xCD | 0xE1 | 0xE5 | 0xE9 | 0xED => some [.rw, .rl]
  | 0x83 | 0x87 | 0x8B | 0x8F | 0xA3 | 0xA7 | 0xAB | 0xAF | 0xC3 | 0xC7
  | 0xEF => some [.rw, .rq]
  | _ => none

/-- The instruction of a vector opcode with one operand (R149). -/
def build1 (op : Nat) (a : Spec) : Option Instr :=
  match op with
  | 0x80 => some (.vvaddl a)
  | 0x82 => some (.vvaddg a)
  | 0x84 => some (.vvaddf a)
  | 0x86 => some (.vvaddd a)
  | 0x88 => some (.vvsubl a)
  | 0x8A => some (.vvsubg a)
  | 0x8C => some (.vvsubf a)
  | 0x8E => some (.vvsubd a)
  | 0xA0 => some (.vvmull a)
  | 0xA2 => some (.vvmulg a)
  | 0xA4 => some (.vvmulf a)
  | 0xA6 => some (.vvmuld a)
  | 0xA8 => some (.vsync a)
  | 0xAA => some (.vvdivg a)
  | 0xAC => some (.vvdivf a)
  | 0xAE => some (.vvdivd a)
  | 0xC0 => some (.vvcmpl a)
  | 0xC2 => some (.vvcmpg a)
  | 0xC4 => some (.vvcmpf a)
  | 0xC6 => some (.vvcmpd a)
  | 0xC8 => some (.vvbisl a)
  | 0xCC => some (.vvbicl a)
  | 0xE0 => some (.vvsrll a)
  | 0xE4 => some (.vvslll a)
  | 0xE8 => some (.vvxorl a)
  | 0xEC => some (.vvcvt a)
  | 0xEE => some (.vvmerge a)
  | _ => none

/-- The instruction of a vector opcode with two operands (R149). -/
def build2 (op : Nat) (a b : Spec) : Option Instr :=
  match op with
  | 0x31 => some (.mfvp a b)
  | 0x35 => some (.vgathl a b)
  | 0x37 => some (.vgathq a b)
  | 0x81 => some (.vsaddl a b)
  | 0x83 => some (.vsaddg a b)
  | 0x85 => some (.vsaddf a b)
  | 0x87 => some (.vsaddd a b)
  | 0x89 => some (.vssubl a b)
  | 0x8B => some (.vssubg a b)
  | 0x8D => some (.vssubf a b)
  | 0x8F => some (.vssubd a b)
  | 0x9D => some (.vscatl a b)
  | 0x9F => some (.vscatq a b)
  | 0xA1 => some (.vsmull a b)
  | 0xA3 => some (.vsmulg a b)
  | 0xA5 => some (.vsmulf a b)
  | 0xA7 => some (.vsmuld a b)
  | 0xA9 => some (.mtvp a b)
  | 0xAB => some (.vsdivg a b)
  | 0xAD => some (.vsdivf a b)
  | 0xAF => some (.vsdivd a b)
  | 0xC1 => some (.vscmpl a b)
  | 0xC3 => some (.vscmpg a b)
  | 0xC5 => some (.vscmpf a b)
  | 0xC7 => some (.vscmpd a b)
  | 0xC9 => some (.vsbisl a b)
  | 0xCD => some (.vsbicl a b)
  | 0xE1 => some (.vssrll a b)
  | 0xE5 => some (.vsslll a b)
  | 0xE9 => some (.vsxorl a b)
  | 0xED => some (.iota a b)
  | 0xEF => some (.vsmerge a b)
  | _ => none

/-- The instruction of a vector opcode with three operands (R149). -/
def build3 (op : Nat) (a b c : Spec) : Option Instr :=
  match op with
  | 0x34 => some (.vldl a b c)
  | 0x36 => some (.vldq a b c)
  | 0x9C => some (.vstl a b c)
  | 0x9E => some (.vstq a b c)
  | _ => none

/-- The instruction of a vector opcode and its operands (R149). -/
def buildInstr (op : Nat) : List Spec → Option Instr
  | [a] => build1 op a
  | [a, b] => build2 op a b
  | [a, b, c] => build3 op a b c
  | _ => none

/-- The control word bits a form fixes, where the control word is in immediate mode, as the assembler writes it
(R143; log entry 24). -/
def Spec.controlField (lo width : Nat) : Spec → Option Nat
  | .immediate v => some ((v.toNat / 2 ^ lo) % 2 ^ width)
  | _ => none

/-- The register number a form fixes, where the operand is a literal or a constant (R350, R158). -/
def Spec.constant : Spec → Option Word
  | .literal v => some (v.zeroExtend 16)
  | .immediate v => some (v.truncate 16)
  | _ => none

/-- The named form of a core instruction, where its operands fix one (R154, R156, R157, R158): the compare function
`cntrl<2:0>`, the convert function `cntrl<11:8>`, or the register number under `r`. -/
def Instr.refine (r : RegNums) (i : Instr) : Instr :=
  match i with
  | .mfvp regnum dst =>
    if regnum.constant = some r.vcr then .mfvcr regnum dst else
    if regnum.constant = some r.vlr then .mfvlr regnum dst else
    if regnum.constant = some r.vmrlo then .mfvmrlo regnum dst else
    if regnum.constant = some r.vmrhi then .mfvmrhi regnum dst else
    if regnum.constant = some r.sync then .sync regnum dst else
    if regnum.constant = some r.msync then .msync regnum dst else
    i
  | .mtvp regnum src =>
    if regnum.constant = some r.vcr then .mtvcr regnum src else
    if regnum.constant = some r.vlr then .mtvlr regnum src else
    if regnum.constant = some r.vmrlo then .mtvmrlo regnum src else
    if regnum.constant = some r.vmrhi then .mtvmrhi regnum src else
    i
  | .vvcmpl cntrl =>
    match cntrl.controlField 0 3 with
    | some 0 => .vvgtrl cntrl
    | some 1 => .vveqll cntrl
    | some 2 => .vvlssl cntrl
    | some 4 => .vvleql cntrl
    | some 5 => .vvneql cntrl
    | some 6 => .vvgeql cntrl
    | _ => i
  | .vscmpl cntrl src =>
    match cntrl.controlField 0 3 with
    | some 0 => .vsgtrl cntrl src
    | some 1 => .vseqll cntrl src
    | some 2 => .vslssl cntrl src
    | some 4 => .vsleql cntrl src
    | some 5 => .vsneql cntrl src
    | some 6 => .vsgeql cntrl src
    | _ => i
  | .vvcmpg cntrl =>
    match cntrl.controlField 0 3 with
    | some 0 => .vvgtrg cntrl
    | some 1 => .vveqlg cntrl
    | some 2 => .vvlssg cntrl
    | some 4 => .vvleqg cntrl
    | some 5 => .vvneqg cntrl
    | some 6 => .vvgeqg cntrl
    | _ => i
  | .vscmpg cntrl src =>
    match cntrl.controlField 0 3 with
    | some 0 => .vsgtrg cntrl src
    | some 1 => .vseqlg cntrl src
    | some 2 => .vslssg cntrl src
    | some 4 => .vsleqg cntrl src
    | some 5 => .vsneqg cntrl src
    | some 6 => .vsgeqg cntrl src
    | _ => i
  | .vvcmpf cntrl =>
    match cntrl.controlField 0 3 with
    | some 0 => .vvgtrf cntrl
    | some 1 => .vveqlf cntrl
    | some 2 => .vvlssf cntrl
    | some 4 => .vvleqf cntrl
    | some 5 => .vvneqf cntrl
    | some 6 => .vvgeqf cntrl
    | _ => i
  | .vscmpf cntrl src =>
    match cntrl.controlField 0 3 with
    | some 0 => .vsgtrf cntrl src
    | some 1 => .vseqlf cntrl src
    | some 2 => .vslssf cntrl src
    | some 4 => .vsleqf cntrl src
    | some 5 => .vsneqf cntrl src
    | some 6 => .vsgeqf cntrl src
    | _ => i
  | .vvcmpd cntrl =>
    match cntrl.controlField 0 3 with
    | some 0 => .vvgtrd cntrl
    | some 1 => .vveqld cntrl
    | some 2 => .vvlssd cntrl
    | some 4 => .vvleqd cntrl
    | some 5 => .vvneqd cntrl
    | some 6 => .vvgeqd cntrl
    | _ => i
  | .vscmpd cntrl src =>
    match cntrl.controlField 0 3 with
    | some 0 => .vsgtrd cntrl src
    | some 1 => .vseqld cntrl src
    | some 2 => .vslssd cntrl src
    | some 4 => .vsleqd cntrl src
    | some 5 => .vsneqd cntrl src
    | some 6 => .vsgeqd cntrl src
    | _ => i
  | .vvcvt cntrl =>
    match cntrl.controlField 8 4 with
    | some 1 => .vvcvtlf cntrl
    | some 2 => .vvcvtld cntrl
    | some 3 => .vvcvtlg cntrl
    | some 4 => .vvcvtfl cntrl
    | some 5 => .vvcvtrfl cntrl
    | some 6 => .vvcvtfd cntrl
    | some 7 => .vvcvtfg cntrl
    | some 8 => .vvcvtdl cntrl
    | some 9 => .vvcvtdf cntrl
    | some 10 => .vvcvtrdl cntrl
    | some 12 => .vvcvtgl cntrl
    | some 13 => .vvcvtgf cntrl
    | some 15 => .vvcvtrgl cntrl
    | _ => i
  | _ => i

/-- The core instruction whose opcode a form shares (R149, R154). -/
def Instr.core (i : Instr) : Instr :=
  match i with
  | .vvcvtlf cntrl => .vvcvt cntrl
  | .vvcvtld cntrl => .vvcvt cntrl
  | .vvcvtlg cntrl => .vvcvt cntrl
  | .vvcvtfl cntrl => .vvcvt cntrl
  | .vvcvtrfl cntrl => .vvcvt cntrl
  | .vvcvtfd cntrl => .vvcvt cntrl
  | .vvcvtfg cntrl => .vvcvt cntrl
  | .vvcvtdl cntrl => .vvcvt cntrl
  | .vvcvtdf cntrl => .vvcvt cntrl
  | .vvcvtrdl cntrl => .vvcvt cntrl
  | .vvcvtgl cntrl => .vvcvt cntrl
  | .vvcvtgf cntrl => .vvcvt cntrl
  | .vvcvtrgl cntrl => .vvcvt cntrl
  | .vvgtrl cntrl => .vvcmpl cntrl
  | .vveqll cntrl => .vvcmpl cntrl
  | .vvlssl cntrl => .vvcmpl cntrl
  | .vvleql cntrl => .vvcmpl cntrl
  | .vvneql cntrl => .vvcmpl cntrl
  | .vvgeql cntrl => .vvcmpl cntrl
  | .vsgtrl cntrl src => .vscmpl cntrl src
  | .vseqll cntrl src => .vscmpl cntrl src
  | .vslssl cntrl src => .vscmpl cntrl src
  | .vsleql cntrl src => .vscmpl cntrl src
  | .vsneql cntrl src => .vscmpl cntrl src
  | .vsgeql cntrl src => .vscmpl cntrl src
  | .vvgtrf cntrl => .vvcmpf cntrl
  | .vveqlf cntrl => .vvcmpf cntrl
  | .vvlssf cntrl => .vvcmpf cntrl
  | .vvleqf cntrl => .vvcmpf cntrl
  | .vvneqf cntrl => .vvcmpf cntrl
  | .vvgeqf cntrl => .vvcmpf cntrl
  | .vsgtrf cntrl src => .vscmpf cntrl src
  | .vseqlf cntrl src => .vscmpf cntrl src
  | .vslssf cntrl src => .vscmpf cntrl src
  | .vsleqf cntrl src => .vscmpf cntrl src
  | .vsneqf cntrl src => .vscmpf cntrl src
  | .vsgeqf cntrl src => .vscmpf cntrl src
  | .vvgtrd cntrl => .vvcmpd cntrl
  | .vveqld cntrl => .vvcmpd cntrl
  | .vvlssd cntrl => .vvcmpd cntrl
  | .vvleqd cntrl => .vvcmpd cntrl
  | .vvneqd cntrl => .vvcmpd cntrl
  | .vvgeqd cntrl => .vvcmpd cntrl
  | .vsgtrd cntrl src => .vscmpd cntrl src
  | .vseqld cntrl src => .vscmpd cntrl src
  | .vslssd cntrl src => .vscmpd cntrl src
  | .vsleqd cntrl src => .vscmpd cntrl src
  | .vsneqd cntrl src => .vscmpd cntrl src
  | .vsgeqd cntrl src => .vscmpd cntrl src
  | .vvgtrg cntrl => .vvcmpg cntrl
  | .vveqlg cntrl => .vvcmpg cntrl
  | .vvlssg cntrl => .vvcmpg cntrl
  | .vvleqg cntrl => .vvcmpg cntrl
  | .vvneqg cntrl => .vvcmpg cntrl
  | .vvgeqg cntrl => .vvcmpg cntrl
  | .vsgtrg cntrl src => .vscmpg cntrl src
  | .vseqlg cntrl src => .vscmpg cntrl src
  | .vslssg cntrl src => .vscmpg cntrl src
  | .vsleqg cntrl src => .vscmpg cntrl src
  | .vsneqg cntrl src => .vscmpg cntrl src
  | .vsgeqg cntrl src => .vscmpg cntrl src
  | .mfvcr regnum dst => .mfvp regnum dst
  | .mfvlr regnum dst => .mfvp regnum dst
  | .mfvmrlo regnum dst => .mfvp regnum dst
  | .mfvmrhi regnum dst => .mfvp regnum dst
  | .sync regnum dst => .mfvp regnum dst
  | .msync regnum dst => .mfvp regnum dst
  | .mtvcr regnum src => .mtvp regnum src
  | .mtvlr regnum src => .mtvp regnum src
  | .mtvmrlo regnum src => .mtvp regnum src
  | .mtvmrhi regnum src => .mtvp regnum src
  | _ => i

/-- The second opcode byte (R131, R149). -/
def Instr.opcode : Instr → Nat
  | .mfvp _ _ => 0x31
  | .vldl _ _ _ => 0x34
  | .vgathl _ _ => 0x35
  | .vldq _ _ _ => 0x36
  | .vgathq _ _ => 0x37
  | .vvaddl _ => 0x80
  | .vsaddl _ _ => 0x81
  | .vvaddg _ => 0x82
  | .vsaddg _ _ => 0x83
  | .vvaddf _ => 0x84
  | .vsaddf _ _ => 0x85
  | .vvaddd _ => 0x86
  | .vsaddd _ _ => 0x87
  | .vvsubl _ => 0x88
  | .vssubl _ _ => 0x89
  | .vvsubg _ => 0x8A
  | .vssubg _ _ => 0x8B
  | .vvsubf _ => 0x8C
  | .vssubf _ _ => 0x8D
  | .vvsubd _ => 0x8E
  | .vssubd _ _ => 0x8F
  | .vstl _ _ _ => 0x9C
  | .vscatl _ _ => 0x9D
  | .vstq _ _ _ => 0x9E
  | .vscatq _ _ => 0x9F
  | .vvmull _ => 0xA0
  | .vsmull _ _ => 0xA1
  | .vvmulg _ => 0xA2
  | .vsmulg _ _ => 0xA3
  | .vvmulf _ => 0xA4
  | .vsmulf _ _ => 0xA5
  | .vvmuld _ => 0xA6
  | .vsmuld _ _ => 0xA7
  | .vsync _ => 0xA8
  | .mtvp _ _ => 0xA9
  | .vvdivg _ => 0xAA
  | .vsdivg _ _ => 0xAB
  | .vvdivf _ => 0xAC
  | .vsdivf _ _ => 0xAD
  | .vvdivd _ => 0xAE
  | .vsdivd _ _ => 0xAF
  | .vvcmpl _ => 0xC0
  | .vscmpl _ _ => 0xC1
  | .vvcmpg _ => 0xC2
  | .vscmpg _ _ => 0xC3
  | .vvcmpf _ => 0xC4
  | .vscmpf _ _ => 0xC5
  | .vvcmpd _ => 0xC6
  | .vscmpd _ _ => 0xC7
  | .vvbisl _ => 0xC8
  | .vsbisl _ _ => 0xC9
  | .vvbicl _ => 0xCC
  | .vsbicl _ _ => 0xCD
  | .vvsrll _ => 0xE0
  | .vssrll _ _ => 0xE1
  | .vvslll _ => 0xE4
  | .vsslll _ _ => 0xE5
  | .vvxorl _ => 0xE8
  | .vsxorl _ _ => 0xE9
  | .vvcvt _ => 0xEC
  | .iota _ _ => 0xED
  | .vvmerge _ => 0xEE
  | .vsmerge _ _ => 0xEF
  | .vvcvtlf _ => 0xEC
  | .vvcvtld _ => 0xEC
  | .vvcvtlg _ => 0xEC
  | .vvcvtfl _ => 0xEC
  | .vvcvtrfl _ => 0xEC
  | .vvcvtfd _ => 0xEC
  | .vvcvtfg _ => 0xEC
  | .vvcvtdl _ => 0xEC
  | .vvcvtdf _ => 0xEC
  | .vvcvtrdl _ => 0xEC
  | .vvcvtgl _ => 0xEC
  | .vvcvtgf _ => 0xEC
  | .vvcvtrgl _ => 0xEC
  | .vvgtrl _ => 0xC0
  | .vveqll _ => 0xC0
  | .vvlssl _ => 0xC0
  | .vvleql _ => 0xC0
  | .vvneql _ => 0xC0
  | .vvgeql _ => 0xC0
  | .vsgtrl _ _ => 0xC1
  | .vseqll _ _ => 0xC1
  | .vslssl _ _ => 0xC1
  | .vsleql _ _ => 0xC1
  | .vsneql _ _ => 0xC1
  | .vsgeql _ _ => 0xC1
  | .vvgtrf _ => 0xC4
  | .vveqlf _ => 0xC4
  | .vvlssf _ => 0xC4
  | .vvleqf _ => 0xC4
  | .vvneqf _ => 0xC4
  | .vvgeqf _ => 0xC4
  | .vsgtrf _ _ => 0xC5
  | .vseqlf _ _ => 0xC5
  | .vslssf _ _ => 0xC5
  | .vsleqf _ _ => 0xC5
  | .vsneqf _ _ => 0xC5
  | .vsgeqf _ _ => 0xC5
  | .vvgtrd _ => 0xC6
  | .vveqld _ => 0xC6
  | .vvlssd _ => 0xC6
  | .vvleqd _ => 0xC6
  | .vvneqd _ => 0xC6
  | .vvgeqd _ => 0xC6
  | .vsgtrd _ _ => 0xC7
  | .vseqld _ _ => 0xC7
  | .vslssd _ _ => 0xC7
  | .vsleqd _ _ => 0xC7
  | .vsneqd _ _ => 0xC7
  | .vsgeqd _ _ => 0xC7
  | .vvgtrg _ => 0xC2
  | .vveqlg _ => 0xC2
  | .vvlssg _ => 0xC2
  | .vvleqg _ => 0xC2
  | .vvneqg _ => 0xC2
  | .vvgeqg _ => 0xC2
  | .vsgtrg _ _ => 0xC3
  | .vseqlg _ _ => 0xC3
  | .vslssg _ _ => 0xC3
  | .vsleqg _ _ => 0xC3
  | .vsneqg _ _ => 0xC3
  | .vsgeqg _ _ => 0xC3
  | .mfvcr _ _ => 0x31
  | .mfvlr _ _ => 0x31
  | .mfvmrlo _ _ => 0x31
  | .mfvmrhi _ _ => 0x31
  | .sync _ _ => 0x31
  | .msync _ _ => 0x31
  | .mtvcr _ _ => 0xA9
  | .mtvlr _ _ => 0xA9
  | .mtvmrlo _ _ => 0xA9
  | .mtvmrhi _ _ => 0xA9

/-- The operand specifiers, in stream order (R130). -/
def Instr.operands : Instr → List Spec
  | .mfvp regnum dst => [regnum, dst]
  | .vldl cntrl base stride => [cntrl, base, stride]
  | .vgathl cntrl base => [cntrl, base]
  | .vldq cntrl base stride => [cntrl, base, stride]
  | .vgathq cntrl base => [cntrl, base]
  | .vvaddl cntrl => [cntrl]
  | .vsaddl cntrl addend => [cntrl, addend]
  | .vvaddg cntrl => [cntrl]
  | .vsaddg cntrl addend => [cntrl, addend]
  | .vvaddf cntrl => [cntrl]
  | .vsaddf cntrl addend => [cntrl, addend]
  | .vvaddd cntrl => [cntrl]
  | .vsaddd cntrl addend => [cntrl, addend]
  | .vvsubl cntrl => [cntrl]
  | .vssubl cntrl min => [cntrl, min]
  | .vvsubg cntrl => [cntrl]
  | .vssubg cntrl min => [cntrl, min]
  | .vvsubf cntrl => [cntrl]
  | .vssubf cntrl min => [cntrl, min]
  | .vvsubd cntrl => [cntrl]
  | .vssubd cntrl min => [cntrl, min]
  | .vstl cntrl base stride => [cntrl, base, stride]
  | .vscatl cntrl base => [cntrl, base]
  | .vstq cntrl base stride => [cntrl, base, stride]
  | .vscatq cntrl base => [cntrl, base]
  | .vvmull cntrl => [cntrl]
  | .vsmull cntrl mulr => [cntrl, mulr]
  | .vvmulg cntrl => [cntrl]
  | .vsmulg cntrl mulr => [cntrl, mulr]
  | .vvmulf cntrl => [cntrl]
  | .vsmulf cntrl mulr => [cntrl, mulr]
  | .vvmuld cntrl => [cntrl]
  | .vsmuld cntrl mulr => [cntrl, mulr]
  | .vsync regnum => [regnum]
  | .mtvp regnum src => [regnum, src]
  | .vvdivg cntrl => [cntrl]
  | .vsdivg cntrl divd => [cntrl, divd]
  | .vvdivf cntrl => [cntrl]
  | .vsdivf cntrl divd => [cntrl, divd]
  | .vvdivd cntrl => [cntrl]
  | .vsdivd cntrl divd => [cntrl, divd]
  | .vvcmpl cntrl => [cntrl]
  | .vscmpl cntrl src => [cntrl, src]
  | .vvcmpg cntrl => [cntrl]
  | .vscmpg cntrl src => [cntrl, src]
  | .vvcmpf cntrl => [cntrl]
  | .vscmpf cntrl src => [cntrl, src]
  | .vvcmpd cntrl => [cntrl]
  | .vscmpd cntrl src => [cntrl, src]
  | .vvbisl cntrl => [cntrl]
  | .vsbisl cntrl src => [cntrl, src]
  | .vvbicl cntrl => [cntrl]
  | .vsbicl cntrl src => [cntrl, src]
  | .vvsrll cntrl => [cntrl]
  | .vssrll cntrl cnt => [cntrl, cnt]
  | .vvslll cntrl => [cntrl]
  | .vsslll cntrl cnt => [cntrl, cnt]
  | .vvxorl cntrl => [cntrl]
  | .vsxorl cntrl src => [cntrl, src]
  | .vvcvt cntrl => [cntrl]
  | .iota cntrl stride => [cntrl, stride]
  | .vvmerge cntrl => [cntrl]
  | .vsmerge cntrl src => [cntrl, src]
  | .vvcvtlf cntrl => [cntrl]
  | .vvcvtld cntrl => [cntrl]
  | .vvcvtlg cntrl => [cntrl]
  | .vvcvtfl cntrl => [cntrl]
  | .vvcvtrfl cntrl => [cntrl]
  | .vvcvtfd cntrl => [cntrl]
  | .vvcvtfg cntrl => [cntrl]
  | .vvcvtdl cntrl => [cntrl]
  | .vvcvtdf cntrl => [cntrl]
  | .vvcvtrdl cntrl => [cntrl]
  | .vvcvtgl cntrl => [cntrl]
  | .vvcvtgf cntrl => [cntrl]
  | .vvcvtrgl cntrl => [cntrl]
  | .vvgtrl cntrl => [cntrl]
  | .vveqll cntrl => [cntrl]
  | .vvlssl cntrl => [cntrl]
  | .vvleql cntrl => [cntrl]
  | .vvneql cntrl => [cntrl]
  | .vvgeql cntrl => [cntrl]
  | .vsgtrl cntrl src => [cntrl, src]
  | .vseqll cntrl src => [cntrl, src]
  | .vslssl cntrl src => [cntrl, src]
  | .vsleql cntrl src => [cntrl, src]
  | .vsneql cntrl src => [cntrl, src]
  | .vsgeql cntrl src => [cntrl, src]
  | .vvgtrf cntrl => [cntrl]
  | .vveqlf cntrl => [cntrl]
  | .vvlssf cntrl => [cntrl]
  | .vvleqf cntrl => [cntrl]
  | .vvneqf cntrl => [cntrl]
  | .vvgeqf cntrl => [cntrl]
  | .vsgtrf cntrl src => [cntrl, src]
  | .vseqlf cntrl src => [cntrl, src]
  | .vslssf cntrl src => [cntrl, src]
  | .vsleqf cntrl src => [cntrl, src]
  | .vsneqf cntrl src => [cntrl, src]
  | .vsgeqf cntrl src => [cntrl, src]
  | .vvgtrd cntrl => [cntrl]
  | .vveqld cntrl => [cntrl]
  | .vvlssd cntrl => [cntrl]
  | .vvleqd cntrl => [cntrl]
  | .vvneqd cntrl => [cntrl]
  | .vvgeqd cntrl => [cntrl]
  | .vsgtrd cntrl src => [cntrl, src]
  | .vseqld cntrl src => [cntrl, src]
  | .vslssd cntrl src => [cntrl, src]
  | .vsleqd cntrl src => [cntrl, src]
  | .vsneqd cntrl src => [cntrl, src]
  | .vsgeqd cntrl src => [cntrl, src]
  | .vvgtrg cntrl => [cntrl]
  | .vveqlg cntrl => [cntrl]
  | .vvlssg cntrl => [cntrl]
  | .vvleqg cntrl => [cntrl]
  | .vvneqg cntrl => [cntrl]
  | .vvgeqg cntrl => [cntrl]
  | .vsgtrg cntrl src => [cntrl, src]
  | .vseqlg cntrl src => [cntrl, src]
  | .vslssg cntrl src => [cntrl, src]
  | .vsleqg cntrl src => [cntrl, src]
  | .vsneqg cntrl src => [cntrl, src]
  | .vsgeqg cntrl src => [cntrl, src]
  | .mfvcr regnum dst => [regnum, dst]
  | .mfvlr regnum dst => [regnum, dst]
  | .mfvmrlo regnum dst => [regnum, dst]
  | .mfvmrhi regnum dst => [regnum, dst]
  | .sync regnum dst => [regnum, dst]
  | .msync regnum dst => [regnum, dst]
  | .mtvcr regnum src => [regnum, src]
  | .mtvlr regnum src => [regnum, src]
  | .mtvmrlo regnum src => [regnum, src]
  | .mtvmrhi regnum src => [regnum, src]

/-- The operands' access types and sizes (R149). -/
def Instr.accesses (i : Instr) : List Access := (opcodeAccesses i.opcode).getD []

/-- A vector instruction from the bytes after FD (R130, R131). -/
def decodeVector (r : RegNums) : List Byte → Except DecodeError (Instr × List Byte)
  | [] => .error .truncated
  | op :: bs =>
    match opcodeAccesses op.toNat with
    | none => .error (.illegalVectorOpcode op)
    | some accs =>
      match parseSpecs accs bs with
      | .error e => .error e
      | .ok (specs, rest) =>
        match buildInstr op.toNat specs with
        | some i => .ok (i.refine r, rest)
        | none => .error (.illegalVectorOpcode op)

/-- A scalar instruction's two specifiers and its constructor (R370). -/
def decodeTwo (accs : List Access) (bs : List Byte) (f : Spec → Spec → ScalarInstr) :
    Except DecodeError (ScalarInstr × List Byte) :=
  match parseSpecs accs bs with
  | .ok ([a, b], rest) => .ok (f a b, rest)
  | .ok _ => .error .truncated
  | .error e => .error e

/-- Any bytes: the instruction they begin with, and the bytes after it. FD is the first byte of every vector opcode
(R131); DA, DB and 02 are MTPR, MFPR and REI (R370, R435); every other first byte is outside the scope (R5). -/
def decodeBytes (r : RegNums) : List Byte → Except DecodeError (Decoded × List Byte)
  | [] => .error .truncated
  | b :: bs =>
    match b.toNat with
    | 0xFD =>
      match decodeVector r bs with
      | .ok (i, rest) => .ok (.vector i, rest)
      | .error e => .error e
    | 0xDA =>
      match decodeTwo [.rl, .rl] bs .mtpr with
      | .ok (i, rest) => .ok (.scalar i, rest)
      | .error e => .error e
    | 0xDB =>
      match decodeTwo [.rl, .wl] bs .mfpr with
      | .ok (i, rest) => .ok (.scalar i, rest)
      | .error e => .error e
    | 0x02 => .ok (.scalar .rei, bs)
    | _ => .error (.scalarOpcode b)

/-- Any bytes: the instruction and its length in bytes (R132). -/
def decode (r : RegNums) (bs : List Byte) : Except DecodeError (Decoded × Nat) :=
  match decodeBytes r bs with
  | .ok (d, rest) => .ok (d, bs.length - rest.length)
  | .error e => .error e

/-- The longest instruction of the model, in bytes: two opcode bytes and three indexed specifiers with longword
constants (R132, R134). -/
def maxLength : Nat := 20

/-- The instruction of a table row's bits: bit 0 is the least significant bit of the first byte. -/
def decodeTableWord (nbits w : Nat) : Option Instr :=
  match decodeBytes {} (bytesLE maxLength (w % 2 ^ nbits)) with
  | .ok (.vector i, _) => some i
  | _ => none

/-- The mode byte: the mode above the register number (R134). -/
def modeByte (mode : Nat) (n : RegNo) : Byte := BitVec.ofNat 8 (16 * mode + n.toNat)

/-- The bytes of a memory specifier (R134). -/
def Base.encode : Base → List Byte
  | .deferred n => [modeByte 6 n]
  | .autodec n => [modeByte 7 n]
  | .autoinc n => [modeByte 8 n]
  | .autoincDef n => [modeByte 9 n]
  | .absolute a => 0x9F :: bytesLE 4 a.toNat
  | .disp8 n d => modeByte 10 n :: bytesLE 1 d.toNat
  | .disp8Def n d => modeByte 11 n :: bytesLE 1 d.toNat
  | .disp16 n d => modeByte 12 n :: bytesLE 2 d.toNat
  | .disp16Def n d => modeByte 13 n :: bytesLE 2 d.toNat
  | .disp32 n d => modeByte 14 n :: bytesLE 4 d.toNat
  | .disp32Def n d => modeByte 15 n :: bytesLE 4 d.toNat

/-- The bytes of a specifier for an operand of `size` bytes (R134). -/
def Spec.encode (size : Nat) : Spec → List Byte
  | .literal v => [v.zeroExtend 8]
  | .reg n => [modeByte 5 n]
  | .immediate v => 0x8F :: bytesLE size v.toNat
  | .mem b => b.encode
  | .indexed x b => modeByte 4 x :: b.encode

/-- The bytes of an instruction's specifiers (R130). -/
def encodeSpecs : List Access → List Spec → List Byte
  | a :: as, sp :: sps => sp.encode a.size ++ encodeSpecs as sps
  | _, _ => []

/-- The bytes of a vector instruction (R130, R131). -/
def encode (i : Instr) : List Byte :=
  0xFD :: BitVec.ofNat 8 i.opcode :: encodeSpecs i.accesses i.operands

/-- The bytes of a scalar instruction (R370, R435). -/
def ScalarInstr.encode : ScalarInstr → List Byte
  | .mtpr src procreg => 0xDA :: encodeSpecs [.rl, .rl] [src, procreg]
  | .mfpr procreg dst => 0xDB :: encodeSpecs [.rl, .wl] [procreg, dst]
  | .rei => [0x02]

end Sys2Proof
end

