-- ==== Sys2Proof/Machine/State.lean ====
section
/-! DEFINITION. The machine's state as plain data, its faults and refusals, and the state after reset. -/

namespace Sys2Proof.Machine

/-- Memory: bytes at physical addresses, in one canonical form (addresses strictly rising, no byte listed that is
what an unlisted address reads as; log entries 8 and 9). -/
structure Memory where
  cells : List Host.Cell := []
  deriving DecidableEq, Repr

/-- The memory-management registers that the vector processor may hold a copy of (R57, R112). -/
structure MmRegs where
  sbr : Long := 0
  slr : Long := 0
  sptep : Long := 0
  p0br : Long := 0
  p0lr : Long := 0
  p1br : Long := 0
  p1lr : Long := 0
  deriving DecidableEq, Repr

/-- One row of what the page tables say (R90 Translate; log entry 10): under the registers `regs`, the `len` bytes
at virtual address `va` lie at `pa`. Bit m of `readModes` and `writeModes` allows access mode m. -/
structure MapRow where
  regs : MmRegs := {}
  va : Nat
  len : Nat
  pa : Nat
  readModes : BitVec 4
  writeModes : BitVec 4
  valid : Bool := true
  modified : Bool := true
  /-- beyond the region's length register: an access control violation with L set (R408, R411) -/
  lengthViolation : Bool := false
  /-- the fault is on the reference to the page-table entry: P set (R411) -/
  pteReference : Bool := false
  deriving DecidableEq, Repr

/-- The memory-management exception kinds that a reference can have (R90, R400). -/
inductive MmKind
  | accessViolation
  | translationNotValid
  | modify
  deriving DecidableEq, Repr

/-- A memory-management exception: its kind, its fault parameter without VAS, and the address (R411). -/
structure MmFault where
  kind : MmKind
  param : Long
  va : Long
  deriving DecidableEq, Repr

/-- Vector-vector or vector-scalar form (R149). -/
inductive Form
  | vv
  | vs
  deriving DecidableEq, Repr

/-- VADDL, VSUBL, VMULL (R231, R236, R238). -/
inductive IntOp
  | add
  | sub
  | mul
  deriving DecidableEq, Repr

/-- VBIS, VXOR, VBIC (R251 to R253). -/
inductive LogicOp
  | bis
  | xor
  | bic
  deriving DecidableEq, Repr

/-- VSL, VSR (R258, R259). -/
inductive ShiftOp
  | left
  | right
  deriving DecidableEq, Repr

/-- VADD, VSUB, VMUL, VDIV on floating data (R276). -/
inductive FloatOp
  | add
  | sub
  | mul
  | div
  deriving DecidableEq, Repr

/-- The floating formats F, D and G (R270). -/
inductive FloatFmt
  | f
  | d
  | g
  deriving DecidableEq, Repr

/-- The element sizes of the memory instructions (R83). -/
inductive ElemSize
  | long
  | quad
  deriving DecidableEq, Repr

/-- Strided (VLD, VST) or indexed (VGATH, VSCAT) addressing (R210). -/
inductive Addressing
  | strided
  | indexed
  deriving DecidableEq, Repr

/-- What MTVP writes and MFVP reads (R350). -/
inductive CtrlReg
  | vcr
  | vlr
  | vmrlo
  | vmrhi
  deriving DecidableEq, Repr

/-- The functions of MFVP (R350). -/
inductive MfvpFn
  | read (r : CtrlReg)
  | sync
  | msync
  deriving DecidableEq, Repr

/-- What the vector processor does for a queued instruction: its opcode as sent (R53, R170). -/
inductive VOp
  | intArith (op : IntOp) (form : Form)
  | logical (op : LogicOp) (form : Form)
  | shift (op : ShiftOp) (form : Form)
  | floatArith (fmt : FloatFmt) (op : FloatOp) (form : Form)
  | intCompare (form : Form)
  | floatCompare (fmt : FloatFmt) (form : Form)
  | convert
  | merge (form : Form)
  | iota
  | load (size : ElemSize) (ad : Addressing)
  | store (size : ElemSize) (ad : Addressing)
  | mtvp (r : CtrlReg)
  | vsync
  /-- no instruction: the free values that a load of this addressing leaves in its destination when it meets an exception
  (R416) -/
  | undefine (ad : Addressing)
  deriving DecidableEq, Repr

/-- One access that a memory instruction has made (R95): `len` bytes of element `elem`, from its byte `off` on, at
physical address `pa`; for a load, what was read. -/
structure Part where
  elem : Nat
  off : Nat
  len : Nat
  pa : Nat
  val : Quad := 0
  deriving DecidableEq, Repr

/-- How far an instruction has come that met a memory-management exception (R172, R413, R415). -/
inductive Phase
  /-- it makes no access until MF is cleared for a retry -/
  | suspended
  /-- MF has been cleared, and the faulting reference is to be retried before anything new -/
  | retrying
  /-- the reference has been retried, and the instruction goes on as any other -/
  | resumed
  deriving DecidableEq, Repr

/-- The source registers as an instruction is to read them, as far as they were known when VPSR<STS> stored it (R55, R56,
R374): what later instructions and other programs write does not reach them. -/
structure Sources where
  v : Vector (Vector Quad 64) 16
  vmr : Quad
  /-- what depends on an unreported exception (R190) -/
  taintV : Vector Quad 16
  taintMask : Quad
  /-- the elements and mask bits that were known -/
  readyV : Vector Quad 16
  readyMask : Quad
  /-- of its destination, what it may still write or leave as it was: what it leaves is as it was then (R22) -/
  kept : Quad
  deriving DecidableEq, Repr

/-- A queued vector instruction: what the scalar processor passed (R53, R58), and how far it has come. Its results stay
with it until every older instruction has finished (log entry 2). -/
structure QEntry where
  op : VOp
  cntrl : Word := 0
  /-- the scalar source operand, the stride, or the source of MTVP -/
  scalar : Quad := 0
  base : Long := 0
  /-- the access mode at issue (R58, R214) -/
  mode : BitVec 2 := 0
  /-- physical addresses of the bytes its operands were read from (R224) -/
  guards : List Nat := []
  /-- VLR at its place in issue order (R189) -/
  len : BitVec 7 := 0
  /-- MODEL: where its free values begin (log entry 5) -/
  draw : Nat := 0
  /-- the element addresses already translated and checked, at issue or by a SYNC (R174, R356) -/
  checked : Option (List (Nat × Nat)) := none
  /-- elements that are finished (R95, R96, R187) -/
  done : Quad := 0
  /-- the results of finished elements; of a compare, bit 0 -/
  res : Vector Quad 64 := Vector.replicate 64 0
  /-- finished elements that depend on an unreported exception (R190) -/
  tainted : Quad := 0
  /-- of IOTA: the number of matching positions, once it is known (R343) -/
  count : Option (BitVec 7) := none
  /-- accesses made so far that its later accesses depend on (R86, R97) -/
  parts : List Part := []
  /-- accesses that a store made before it met an exception, and makes again when it is retried (R98, R416) -/
  early : List Part := []
  /-- it has started execution, which need not be an access or a result (R53, R100, R413) -/
  started : Bool := false
  /-- translations it may still use after the translation buffer was invalidated (R117, R388) -/
  tb : List MapRow := []
  /-- the exception that it has met (R55, R413) -/
  fault : Option MmFault := none
  /-- where it has met one, how far its retry has come -/
  phase : Phase := .suspended
  /-- which VPSR<RLD> brought it back, counted among those in the queue; 0 where none did (R388) -/
  reload : Nat := 0
  /-- the source registers that VPSR<STS> stored with it -/
  copy : Option Sources := none
  /-- elements that it leaves as they are, as it was given up before it executed them (R373, R377, R423) -/
  left : Quad := 0
  /-- the elements whose contents its exception has left UNPREDICTABLE until it is complete (R416, R417) -/
  spoil : Quad := 0
  deriving DecidableEq, Repr

/-- What depends on the production of a result that raised an unreported arithmetic exception (R190, R354): one bit
per element, mask bit and so on. -/
structure Taint where
  v : Vector Quad 16 := Vector.replicate 16 0
  vmr : Quad := 0
  vcr : Bool := false
  /-- something a vector memory instruction loaded or stored (R357) -/
  mem : Bool := false
  /-- physical addresses accessed under such a dependence (R193) -/
  stored : List Nat := []
  /-- those among them that a VSYNC has followed: a later access to them depends on theirs (R198) -/
  synced : List Nat := []
  deriving DecidableEq, Repr

/-- The vector processor (R20 to R58). -/
structure Vp where
  v : Vector (Vector Quad 64) 16
  vlr : BitVec 7
  vmr : Quad
  vcr : BitVec 7
  /-- VPSR without BSY, which is computed (R44, log entry 31) -/
  vpsr : Long
  vaer : Long
  vsar : Long
  /-- pending instructions, oldest first (R53) -/
  queue : List QEntry
  /-- the asynchronous exception that VPSR<PMF> announces (R413, R414) -/
  pendingMm : Option MmFault
  /-- an arithmetic exception is unreported (R54, R426) -/
  aexPending : Bool
  taint : Taint
  /-- vector writes that the scalar processor does not see yet, oldest first, one list for each access (R100) -/
  vbuf : List (List Host.Cell)
  /-- the vector processor's own copies (R57, R114) -/
  mm : MmRegs
  /-- the vector translation buffer (R57, R117) -/
  tb : List MapRow
  /-- hardware errors of memory instructions and of other instructions, met and not yet reported (R430 to R432) -/
  hwMem : Bool
  hwOp : Bool
  /-- a hardware error has stopped execution (R44, R423) -/
  halted : Bool
  /-- pending instructions are flushed at the next enable (R423) -/
  flushOnEnable : Bool
  /-- VAER bits that an MTPR to VPSR cleared and that may still show (R382, U7; log entry 52) -/
  vaerOld : Long
  /-- an exception that an MTPR to VPSR cleared may still be reported (R382, U7; log entry 52) -/
  aexLate : Bool
  /-- the writes of VPSR<STS> that an MFPR from VPSR waits for (R374, R381) -/
  storing : List (List Host.Cell)
  /-- a hardware error of a memory instruction was reported through VPSR<IMP>, and no MFPR from VMAC has followed (R431) -/
  impUnseen : Bool
  deriving DecidableEq, Repr

/-- The scalar processor, as far as the vector architecture needs it (R50 to R52, R440). -/
structure Scalar where
  /-- R0 to R13 (R50) -/
  gpr : Vector Long 14
  /-- the stack pointers KSP, ESP, SSP, USP and ISP; R14 is one of them (log entry 7) -/
  sps : Vector Long 5
  /-- R15 (R51) -/
  pc : Long
  psl : Long
  scbb : Long
  /-- memory management is enabled (R93) -/
  mapen : Bool
  mm : MmRegs
  /-- S_VEN, the scalar processor's view of VEN (R52) -/
  venSeen : Bool
  /-- S_VEN as it was before the last MTPR to VPSR, until an MFPR from VPSR (R382, U7) -/
  venOld : Option Bool
  /-- scalar writes that the vector processor does not see yet, oldest first, one list for each datum (R100, R111) -/
  wbuf : List (List Host.Cell)
  /-- the vector processor disabled fault has been taken, and S_VEN has not been set since (R426) -/
  afterDisabled : Bool
  deriving DecidableEq, Repr

/-- Something that happens between two scalar instructions (log entry 2). -/
inductive Event
  /-- entry `k` of the queue starts, if it has not and all before it can, and executes: what can of it, or only the elements
  `elems`, which may be none, or of each of those only one part of its access (R53, R86) -/
  | run (k : Nat) (elems : Option Quad) (part : Option Nat)
  /-- a scalar write becomes visible to the vector processor (R100) -/
  | scalarVisible (j : Nat)
  /-- a vector write becomes visible to the scalar processor (R100) -/
  | vectorVisible (j : Nat)
  /-- a vector write becomes visible within the instruction that comes, before read `n` of its operands (R107) -/
  | visibleAtRead (n j : Nat)
  /-- S_VEN follows VEN (R52) -/
  | venFollows
  /-- S_VEN is the old value again, where an MTPR to VPSR has no MFPR after it yet (R382) -/
  | venStale
  /-- what an MTPR to VPSR cleared shows no more (R382) -/
  | clearTakesEffect
  /-- a hardware error, of a memory instruction or of another, that may stop execution (R430) -/
  | hardwareError (memory stops : Bool)
  /-- a hardware error is reported (R430) -/
  | hardwareReport
  deriving DecidableEq, Repr

/-- What VPSR<STS> stored at VSAR (R374; log entry 32): the bytes in memory are `image`, unarchitected. -/
structure SavedRecord where
  image : List Byte
  queue : List QEntry
  pendingMm : Option MmFault
  mf : Bool
  pmf : Bool
  deriving DecidableEq, Repr

/-- Why the machine stops with a fault. -/
inductive Fault
  /-- Raised by taking an exception whose frame cannot be written to the stack. The spec gives no exception entry
  for that (R437, N35). Safe: the model stops. -/
  | kernelStackNotValid
  deriving DecidableEq, Repr

/-- Why an instruction has no meaning. Every one is safe: the model stops where the hardware may go on. -/
inductive Refusal
  /-- Raised by an arm of `exec` that has no meaning yet. Safe. -/
  | notModelled (mnemonic : String)
  /-- Raised by `step`: the bytes are a scalar instruction outside the scope (R5). Safe. -/
  | scalarInstruction (b : Byte)
  /-- Raised by MTPR and MFPR: a processor register outside the scope (R5, R370). Safe. -/
  | scalarIpr (n : Long)
  /-- Raised at issue: a should-be-zero control word field is nonzero (R142, U12, U13, U11, U40). Safe. -/
  | controlWord
  /-- Raised at issue: compare function 3 or 7 (R233, R311, U39). Safe. -/
  | reservedCompare
  /-- Raised at issue: convert function 0, 11 or 14 (R336, U42). Safe. -/
  | reservedConvert
  /-- Raised at issue: a register number that is not assigned (R366, U47, U49, U50). Safe. -/
  | reservedRegnum
  /-- Raised by an instruction that uses VLR while it is above 64 (R25, U5). Safe. -/
  | lengthAbove64
  /-- Raised by MTVLR and MTVCR: a source with bits <31:7> set (R361, R362, D8). Safe. -/
  | mtvpHighBits
  /-- Raised at issue: a short literal as floating scalar operand (R145, U15). Safe. -/
  | shortLiteralFloat
  /-- Raised at issue: immediate mode for BASE (R146, U17). Safe. -/
  | immediateBase
  /-- Raised by operand evaluation: an immediate constant as a destination (log entry 19). Safe. -/
  | immediateDestination
  /-- Raised by decoding: an index specifier over an immediate constant (log entry 19). Safe. -/
  | indexedImmediate
  /-- Raised by VST and VSCAT: the destination overlaps the instruction's own operands (R224, U16, U37). Safe. -/
  | storeOverlapsOperands
  /-- Raised by a vector reference to I/O space where VIO is not set (R88, U32). Safe. -/
  | ioSpace
  /-- Raised by a vector reference to page tables (R89, U31). Safe. -/
  | pageTable
  /-- Raised at issue with memory management disabled (R93, U33). Safe. -/
  | mmDisabled
  /-- Raised by MTPR: memory management disabled while the vector processor is busy (R93, U34). Safe. -/
  | mmDisabledWhileBusy
  /-- Raised by MTPR: VPSR<RST> while VPSR<BSY> is set (R373, U6). Safe. -/
  | resetWhileBusy
  /-- Raised by MTPR and MFPR: a bad access where BAD_IPR_ACCESS is undefined (R386, U9, U10). Safe. -/
  | badIprAccess
  /-- Raised by instruction fetch: a byte that a vector store wrote (R118, D9). Safe. -/
  | codeOverwritten
  /-- Raised by VPSR<STS> and VPSR<RLD>: the area at VSAR cannot be accessed (R374). Safe. -/
  | stateAreaFault
  deriving DecidableEq, Repr

/-- The exceptions that the scalar processor takes (R401). -/
inductive Exc
  | disabled
  | reservedInstr
  | reservedOperand
  | reservedMode
  | machineCheck
  /-- a memory-management fault, its parameter complete -/
  | mm (f : MmFault)
  deriving DecidableEq, Repr

/-- The whole machine. -/
structure State where
  /-- the implementation's parameters (R6): no step changes them -/
  cfg : Config
  cpu : Scalar
  vp : Vp
  mem : Memory
  /-- the page tables as Translate sees them (R90): no step changes them -/
  pageMap : List MapRow
  saved : List SavedRecord
  /-- physical addresses that vector stores have written (R118) -/
  vstores : List Nat
  /-- MODEL: what happens before each coming instruction; empty is prompt execution (log entries 2 and 3) -/
  sched : List (List Event)
  /-- MODEL: vector writes that become visible within the instruction that comes, each with the read of its operands before
  which it does (R107; log entry 2) -/
  races : List (Nat × List Host.Cell)
  /-- MODEL: the counter of free values (log entry 5) -/
  draws : Nat
  deriving DecidableEq, Repr

/-- The vector processor at reset (R59): VPSR, VAER zero, nothing pending; the rest named in log entries 6 and 12. -/
def Vp.reset : Vp where
  v := Vector.replicate 16 (Vector.replicate 64 0)
  vlr := 0
  vmr := 0
  vcr := 0
  vpsr := 0
  vaer := 0
  vsar := 0
  queue := []
  pendingMm := none
  aexPending := false
  taint := {}
  vbuf := []
  mm := {}
  tb := []
  hwMem := false
  hwOp := false
  halted := false
  flushOnEnable := false
  vaerOld := 0
  aexLate := false
  storing := []
  impUnseen := false

/-- The scalar processor at reset: S_VEN is 0 (R59); the rest named in log entry 7. -/
def Scalar.reset : Scalar where
  gpr := Vector.replicate 14 0
  sps := Vector.replicate 5 0
  pc := 0
  psl := 0x041F0000
  scbb := 0
  mapen := false
  mm := {}
  venSeen := false
  venOld := none
  wbuf := []
  afterDisabled := false

/-- The machine right after reset (R59, R460). That the page tables have no row then is a DESIGN CHOICE (log entry 10). -/
def State.reset : State where
  cfg := Config.default
  cpu := Scalar.reset
  vp := Vp.reset
  mem := {}
  pageMap := []
  saved := []
  vstores := []
  sched := []
  races := []
  draws := 0

end Sys2Proof.Machine
end

