-- ==== Sys2Proof/Machine/Flags.lean ====
section
/-! DEFINITION. The bits of VPSR, VAER, PSL and the control word, `active`, and the record of an arithmetic
exception. -/

namespace Sys2Proof.Machine

/-- Set or clear one bit of a longword. -/
def setBit (x : Long) (n : Nat) (b : Bool) : Long :=
  if b then x ||| (1#32 <<< n) else x &&& ~~~(1#32 <<< n)

/-- Replace the condition codes N and Z from a value and clear V; C is unchanged (R370). -/
def setNZ (psl v : Long) : Long :=
  setBit (setBit (setBit psl 3 v.msb) 2 (decide (v = 0))) 1 false

/-- The current access mode, PSL<25:24> (R440): 0 kernel, 1 executive, 2 supervisor, 3 user. -/
def currentMode (psl : Long) : BitVec 2 := psl.extractLsb' 24 2

/-- PSL<26>: the interrupt stack is in use (log entry 7). -/
def onInterruptStack (psl : Long) : Bool := psl.getLsbD 26

/-- The PSL after taking an exception: kernel mode, the previous mode saved, stack choice and priority kept, all
other bits clear (PRESUMED, log entry 13). -/
def exceptionPsl (psl : Long) : Long :=
  (psl &&& 0x041F0000) ||| ((currentMode psl).zeroExtend 32 <<< 22)

namespace Vp

/-- VPSR<VEN> (R32). -/
def ven (p : Vp) : Bool := p.vpsr.getLsbD 0

/-- VPSR<MF> (R37). -/
def mf (p : Vp) : Bool := p.vpsr.getLsbD 5

/-- VPSR<PMF> (R38). -/
def pmf (p : Vp) : Bool := p.vpsr.getLsbD 6

/-- VPSR<AEX> (R39). -/
def aex (p : Vp) : Bool := p.vpsr.getLsbD 7

/-- VPSR as MFPR reads it, with its computed BSY (R381). -/
def vpsrImage (busy : Bool) (p : Vp) : Long := setBit (p.vpsr &&& 0x030000E1) 31 busy

/-- Set or clear bits of VPSR. -/
def setVpsr (p : Vp) (n : Nat) (b : Bool) : Vp := { p with vpsr := setBit p.vpsr n b }

end Vp

/-- `cntrl<MOE>` (R137). -/
def moe (c : Word) : Bool := c.getLsbD 15

/-- `cntrl<MTF>` (R137). -/
def mtf (c : Word) : Bool := c.getLsbD 14

/-- `cntrl<EXC>` (R138). -/
def exc (c : Word) : Bool := c.getLsbD 13

/-- The Va field, and the convert function of VVCVT (R136). -/
def fieldA (c : Word) : BitVec 4 := c.extractLsb' 8 4

/-- The Vb field (R136). -/
def fieldB (c : Word) : BitVec 4 := c.extractLsb' 4 4

/-- The Vc field (R136). -/
def fieldC (c : Word) : BitVec 4 := c.extractLsb' 0 4

/-- The compare function, `cntrl<2:0>` (R233, R311). -/
def compareFn (c : Word) : BitVec 3 := c.extractLsb' 0 3

/-- `active(i)` of R181 together with the length (R180): element `i` is processed. -/
def active (c : Word) (vlr : BitVec 7) (vmr : Quad) (i : Nat) : Bool :=
  decide (i < vlr.toNat) && (!moe c || vmr.getLsbD i == mtf c)

/-- A set of arithmetic exception types, by VAER bit number (R46): underflow 0, divide by zero 1, reserved operand 2,
floating overflow 3, integer overflow 5. -/
abbrev AexSet := BitVec 6

/-- Floating underflow, VAER<0> (R46). -/
def AexSet.underflow : AexSet := 1

/-- Floating divide by zero, VAER<1> (R46). -/
def AexSet.divideByZero : AexSet := 2

/-- Floating reserved operand, VAER<2> (R46). -/
def AexSet.reservedOperand : AexSet := 4

/-- Floating overflow, VAER<3> (R46). -/
def AexSet.overflow : AexSet := 8

/-- Integer overflow, VAER<5> (R46). -/
def AexSet.integerOverflow : AexSet := 32

/-- The destination mask bit VAER<16+n> of a register (R46). -/
def vaerDest (n : BitVec 4) : Long := 1#32 <<< (16 + n.toNat)

/-- RecordAex (R186) for every type in `types`, and RecordAexNoDest (R312) where there is no destination register:
VAER accumulates, VPSR<AEX> is set, VPSR<VEN> is cleared; an empty set records nothing (R184). -/
def Vp.recordAex (types : AexSet) (dest : Option (BitVec 4)) (p : Vp) : Vp :=
  if types = 0 then p
  else
    { p with
      vaer := p.vaer ||| types.zeroExtend 32 ||| (match dest with | some n => vaerDest n | none => 0)
      vpsr := setBit (setBit p.vpsr 7 true) 0 false
      aexPending := true }

end Sys2Proof.Machine
end

