-- ==== Sys2Proof/Machine/Ops.lean ====
section
/-! DEFINITION. The named operations over memory and registers, translation as the scalar processor sees it, taking
an exception, and returning from one. -/

namespace Sys2Proof.Machine

/-- What a step or a meaning answers. -/
abbrev Out := Host.Outcome State Fault Refusal

/-- Go on from a next state; a fault or a refusal stands. -/
def andThen (o : Out) (f : State → Out) : Out :=
  match o with
  | .next s => f s
  | .fault r => .fault r
  | .refused r => .refused r

/-- What a byte of memory that nothing has written reads as (DESIGN CHOICE, log entry 8). -/
def unlistedByte : Byte := 0

/-- Read one byte of a list of cells. -/
def cellsRead : List Host.Cell → Nat → Byte
  | [], _ => unlistedByte
  | (x, b) :: cs, a => if x = a then b else cellsRead cs a

/-- Write one byte, keeping addresses rising and listing no byte that an unlisted address reads as. -/
def cellsWrite : List Host.Cell → Nat → Byte → List Host.Cell
  | [], a, v => if v = unlistedByte then [] else [(a, v)]
  | (x, b) :: cs, a, v =>
    if x < a then (x, b) :: cellsWrite cs a v
    else if x = a then (if v = unlistedByte then cs else (a, v) :: cs)
    else if v = unlistedByte then (x, b) :: cs else (a, v) :: (x, b) :: cs

/-- Addresses strictly rise and no listed byte is the unlisted one. -/
def cellsWf : List Host.Cell → Bool
  | [] => true
  | [(_, b)] => decide (b ≠ unlistedByte)
  | (x, b) :: (y, c) :: cs => decide (b ≠ unlistedByte) && decide (x < y) && cellsWf ((y, c) :: cs)

namespace Memory

/-- One byte of memory (R80). -/
def read (m : Memory) (a : Nat) : Byte := cellsRead m.cells a

/-- Write one byte of memory (R80). -/
def write (m : Memory) (a : Nat) (b : Byte) : Memory := { cells := cellsWrite m.cells a b }

/-- Write bytes, first to last. -/
def writeCells (m : Memory) (cs : List Host.Cell) : Memory := cs.foldl (fun m c => m.write c.1 c.2) m

/-- The canonical form. -/
def wf (m : Memory) : Bool := cellsWf m.cells

/-- `n` bytes from a physical address, little-endian (R82 MemRead). -/
def readLE (m : Memory) (a : Nat) : Nat → Nat
  | 0 => 0
  | n + 1 => (m.read a).toNat + 256 * m.readLE (a + 1) n

end Memory

/-- The bytes of a value at consecutive addresses, little-endian (R82 MemWrite). -/
def cellsLE (a : Nat) : Nat → Nat → List Host.Cell
  | 0, _ => []
  | n + 1, v => (a, BitVec.ofNat 8 v) :: cellsLE (a + 1) n (v / 256)

/-- The bytes of a value at listed addresses, the least significant first. -/
def cellsAt : List Nat → Nat → List Host.Cell
  | [], _ => []
  | a :: as, v => (a, BitVec.ofNat 8 v) :: cellsAt as (v / 256)

/-- The youngest byte a list of cells (oldest first) holds for an address. -/
def lastCell : List Host.Cell → Nat → Option Byte
  | [], _ => none
  | (x, b) :: cs, a =>
    match lastCell cs a with
    | some y => some y
    | none => if x = a then some b else none

/-- Write number `j` of those that are not visible yet, and the others; none where an older one has an address of it,
so that one location's writes keep their order (R100). -/
def takeWrite (us : List (List Host.Cell)) (j : Nat) : Option (List Host.Cell × List (List Host.Cell)) :=
  match us[j]? with
  | none => none
  | some u =>
    if (us.take j).flatten.any (fun c => u.any fun d => decide (c.1 = d.1)) then none else some (u, us.eraseIdx j)

namespace State

/-- One byte as the scalar processor sees it: its own writes are visible to it at once (R101 note 2). -/
def scalarByte (s : State) (a : Nat) : Byte := (lastCell s.cpu.wbuf.flatten a).getD (s.mem.read a)

/-- One byte as the vector processor sees it: its own writes are visible to it at once (R100). -/
def vectorByte (s : State) (a : Nat) : Byte := (lastCell s.vp.vbuf.flatten a).getD (s.mem.read a)

/-- The little-endian value of bytes at listed physical addresses, as the scalar processor sees them (R82). -/
def scalarRead (s : State) : List Nat → Nat
  | [] => 0
  | a :: as => (s.scalarByte a).toNat + 256 * s.scalarRead as

/-- `n` bytes from a physical address, little-endian, as the vector processor sees them (R82 MemRead). -/
def vectorRead (s : State) (a : Nat) : Nat → Nat
  | 0 => 0
  | n + 1 => (s.vectorByte a).toNat + 256 * s.vectorRead (a + 1) n

/-- Scalar writes, one list of bytes for each datum: the vector processor sees them later (R100, R111). -/
def scalarWrite (s : State) (us : List (List Host.Cell)) : State :=
  { s with cpu := { s.cpu with wbuf := s.cpu.wbuf ++ us } }

/-- Vector writes, one list of bytes for each access: the scalar processor sees them later (R100). Their addresses are
remembered (R118). -/
def vectorWrite (s : State) (us : List (List Host.Cell)) : State :=
  { s with
    vp := { s.vp with vbuf := s.vp.vbuf ++ us }
    vstores := us.flatten.map Prod.fst ++ s.vstores }

/-- A vector write, where it is not visible yet, becomes visible to the scalar processor; of the writes before it, what
goes to its bytes does first (R100). -/
def completeWrite (u : List Host.Cell) (s : State) : State :=
  match s.vp.vbuf.findIdx? (fun w => decide (w = u)) with
  | none => s
  | some j =>
    let mine := fun c : Host.Cell => u.any fun d => decide (d.1 = c.1)
    let older := s.vp.vbuf.take (j + 1)
    { s with
      mem := s.mem.writeCells (older.flatten.filter mine)
      vp := { s.vp with
        vbuf := (older.map fun w => w.filter fun c => !mine c).filter (fun w => !w.isEmpty) ++ s.vp.vbuf.drop (j + 1) } }

/-- The machine as read `n` of an instruction's operands sees memory: the vector writes that race with the instruction and
come before that read are visible (R107). -/
def seenAt (n : Nat) (s : State) : State :=
  (s.races.filter fun r => decide (r.1 ≤ n)).foldl (fun s r => s.completeWrite r.2) s

/-- An instruction is over: the vector writes that became visible within it are visible (R107). -/
def settleRaces (s : State) : State := { s.races.foldl (fun s r => s.completeWrite r.2) s with races := [] }

/-- Every scalar write becomes visible to the vector processor (R102). -/
def flushScalar (s : State) : State :=
  { s with mem := s.mem.writeCells s.cpu.wbuf.flatten, cpu := { s.cpu with wbuf := [] } }

/-- Every vector write becomes visible to the scalar processor (R102). -/
def flushVector (s : State) : State :=
  { s with mem := s.mem.writeCells s.vp.vbuf.flatten, vp := { s.vp with vbuf := [] } }

/-- Scalar/vector memory synchronisation (R102): every write becomes visible to both processors. Of a vector write and
a scalar write to one location that nothing orders, the scalar one comes last (log entry 4). -/
def flushAll (s : State) : State := s.flushVector.flushScalar

/-- Free values used up: the next draw is another one (log entry 5). -/
def spend (s : State) : State := { s with draws := s.draws + 512 }

/-- The current access mode (R177). -/
def mode (s : State) : BitVec 2 := currentMode s.cpu.psl

end State

namespace Scalar

/-- Which stack pointer R14 is (log entry 7). -/
def stackIndex (psl : Long) : Fin 5 :=
  if onInterruptStack psl then 4 else ⟨(currentMode psl).toNat, by have := (currentMode psl).isLt; omega⟩

/-- Read a general register; register 15 reads as `cursor`, the address after the specifier (R50, R134). -/
def readReg (c : Scalar) (n : RegNo) (cursor : Long) : Long :=
  if h : n.toNat < 14 then c.gpr[n.toNat]
  else if n = 14 then c.sps[stackIndex c.psl]
  else cursor

/-- Write a general register. A write to register 15 is lost: no vector instruction writes the PC (R160). -/
def writeReg (c : Scalar) (n : RegNo) (v : Long) : Scalar :=
  if h : n.toNat < 14 then { c with gpr := c.gpr.set n.toNat v }
  else if n = 14 then { c with sps := c.sps.set (stackIndex c.psl) v }
  else c

end Scalar

namespace State

/-- Write a general register (R50). -/
def setReg (s : State) (n : RegNo) (v : Long) : State := { s with cpu := s.cpu.writeReg n v }

/-- Set the program counter (R51). -/
def setPc (s : State) (pc : Long) : State := { s with cpu := { s.cpu with pc := pc } }

/-- Replace the vector processor. -/
def setVp (s : State) (p : Vp) : State := { s with vp := p }

end State

/-- One flag of the fault parameter at its position (R411). -/
def paramBit (n : Nat) (b : Bool) : Long := if b then 1#32 <<< n else 0

/-- The fault parameter's L, P and M bits (R411); VAL and VIO are the vector processor's to add, VAS the report's. -/
def scalarParam (c : Config) (l p m : Bool) : Long :=
  paramBit c.faultBits.lengthBit l ||| paramBit c.faultBits.pteBit p ||| paramBit c.faultBits.modifyBit m

/-- The page-table row for an address under given registers (R90). -/
def findRow (rows : List MapRow) (regs : MmRegs) (va : Long) : Option MapRow :=
  rows.find? fun r => decide (r.regs = regs) && decide (r.va ≤ va.toNat) && decide (va.toNat < r.va + r.len)

/-- Whether a row allows an access mode (R90, R91). -/
def MapRow.allows (r : MapRow) (mode : BitVec 2) (write : Bool) : Bool :=
  if write then r.writeModes.getLsbD mode.toNat else r.readModes.getLsbD mode.toNat

/-- The outcome of Translate for a row (R90): access control violation before translation not valid before modify
(R409). No row is translation not valid (log entry 10). The address that goes with an exception is that of the reference
itself, where R411 asks for some address in the faulting page: a DESIGN CHOICE (log entry 13). -/
def judge (c : Config) (row : Option MapRow) (mode : BitVec 2) (write : Bool) (va : Long) : Except MmFault Nat :=
  match row with
  | none => .error ⟨.translationNotValid, scalarParam c false false write, va⟩
  | some r =>
    let param := scalarParam c r.lengthViolation r.pteReference write
    if r.lengthViolation || !r.allows mode write then .error ⟨.accessViolation, param, va⟩
    else if !r.valid then .error ⟨.translationNotValid, param, va⟩
    else if write && !r.modified && c.modifyFault then .error ⟨.modify, param, va⟩
    else .ok (r.pa + (va.toNat - r.va))

/-- Translation of a scalar reference; with memory management disabled an address is physical (R93, log entry 10). -/
def scalarTranslate (s : State) (mode : BitVec 2) (write : Bool) (va : Long) : Except MmFault Nat :=
  if s.cpu.mapen then judge s.cfg (findRow s.pageMap s.cpu.mm va) mode write va
  else .ok va.toNat

/-- Translation of `n` bytes, each by itself: a scalar operand need not be aligned (R85). -/
def scalarTranslateBytes (s : State) (mode : BitVec 2) (write : Bool) (va : Long) : Nat → Except MmFault (List Nat)
  | 0 => .ok []
  | n + 1 =>
    match scalarTranslate s mode write va with
    | .error f => .error f
    | .ok pa =>
      match scalarTranslateBytes s mode write (va + 1) n with
      | .error f => .error f
      | .ok pas => .ok (pa :: pas)

/-- The system control block offset of an exception (R401, R403, R410). -/
def scbOffset (c : Config) : Exc → Nat
  | .disabled => scbDisabled
  | .reservedInstr => c.scb.reservedInstr
  | .reservedOperand => c.scb.reservedOperand
  | .reservedMode => c.scb.reservedMode
  | .machineCheck => c.scb.machineCheck
  | .mm f =>
    match f.kind with
    | .accessViolation => c.scb.accessViolation
    | .translationNotValid => c.scb.translationNotValid
    | .modify => c.scb.modify

/-- The exception's stack frame, from the lowest address up: the fault parameter and the address of a
memory-management fault, then PC and PSL (R411, R403). A machine check has no parameter here: the spec gives it no frame
(R433; log entry 13). -/
def exceptionFrame (e : Exc) (s : State) : List Long :=
  match e with
  | .mm f => [f.param, f.va, s.cpu.pc, s.cpu.psl]
  | _ => [s.cpu.pc, s.cpu.psl]

/-- The stack an exception uses: the interrupt stack if it is in use, else the kernel stack (log entry 13). -/
def exceptionStack (psl : Long) : Fin 5 := if onInterruptStack psl then 4 else 0

/-- The little-endian bytes of longwords, in order. -/
def longsValue : List Long → Nat
  | [] => 0
  | x :: xs => x.toNat + 2 ^ 32 * longsValue xs

/-- The writes of longwords to consecutive bytes, at listed physical addresses. -/
def longCells : List Nat → List Long → List (List Host.Cell)
  | _, [] => []
  | pas, x :: xs => cellsAt (pas.take 4) x.toNat :: longCells (pas.drop 4) xs

/-- The handler's address: the longword at SCBB plus the offset, at a physical address, low two bits clear
(R403, R410; log entry 13). It is read after all that the instruction has read, with every write that races with the
instruction visible (R107). -/
def handlerAddress (e : Exc) (s : State) : Long :=
  let a := s.cpu.scbb.toNat + scbOffset s.cfg e
  BitVec.ofNat 32 (s.settleRaces.scalarRead [a, a + 1, a + 2, a + 3]) &&& 0xFFFFFFFC

/-- TAKING AN EXCEPTION (R401, R403, R410, R411, R437): the PC of the instruction and the PSL are pushed with the
exception's parameters, the PSL goes to kernel mode, the PC to the handler. It stops only where the frame cannot be
written. -/
def takeException (e : Exc) (s : State) : Out :=
  let frame := exceptionFrame e s
  let k := exceptionStack s.cpu.psl
  let sp := s.cpu.sps[k] - BitVec.ofNat 32 (4 * frame.length)
  match scalarTranslateBytes s 0 true sp (4 * frame.length) with
  | .error _ => .fault .kernelStackNotValid
  | .ok pas =>
    let s' := s.scalarWrite (longCells pas frame)
    .next { s' with
      cpu := { s'.cpu with
        sps := s.cpu.sps.set k sp
        psl := exceptionPsl s.cpu.psl
        pc := handlerAddress e s } }

/-- Nothing that an instruction has produced or is to read depends on an unreported exception any more (R426). -/
def QEntry.forget (e : QEntry) : QEntry :=
  { e with
    tainted := 0
    copy := e.copy.map fun c => { c with taintV := Vector.replicate 16 0, taintMask := 0 } }

/-- The arithmetic exceptions recorded so far are reported (R426): nothing depends on an unreported one any more. -/
def Vp.forget (p : Vp) : Vp :=
  { p with aexPending := false, aexLate := false, taint := {}, queue := p.queue.map QEntry.forget }

/-- The same for what VPSR<STS> has stored (R354: an exception that is reported is no longer unreported there). -/
def State.forgetSaved (s : State) : State :=
  { s with saved := s.saved.map fun r => { r with queue := r.queue.map QEntry.forget } }

/-- The arithmetic exceptions recorded so far are reported (R426). -/
def State.reported (s : State) : State := { s with vp := s.vp.forget }.forgetSaved

/-- The vector processor disabled fault (R403). It reports every arithmetic exception recorded so far, and those that are
recorded later if its handler reads VAER after BSY clears (R426). -/
def takeDisabled (s : State) : Out :=
  takeException .disabled { s.reported with cpu := { s.cpu with afterDisabled := true } }

/-- The fault parameter of a vector exception as reported under the asynchronous method: VAS is set (R411, R414). -/
def MmFault.asynchronous (c : Config) (f : MmFault) : MmFault :=
  { f with param := f.param ||| paramBit c.faultBits.vasBit true }

/-- RETURN FROM AN EXCEPTION, REI (R435): PC and PSL are restored from the current stack, two reads. It does nothing to the
vector processor. Where the stack cannot be read it takes the memory-management fault, with its own PC: a DESIGN CHOICE, as
the spec leaves REI to the scalar architecture (log entry 14). -/
def execRei (s : State) : Out :=
  let k := Scalar.stackIndex s.cpu.psl
  let sp := s.cpu.sps[k]
  match scalarTranslateBytes s s.mode false sp 8 with
  | .error f => takeException (.mm f) s
  | .ok pas =>
    .next { s with
      cpu := { s.cpu with
        sps := s.cpu.sps.set k (sp + 8)
        pc := BitVec.ofNat 32 ((s.seenAt 0).scalarRead (pas.take 4))
        psl := BitVec.ofNat 32 ((s.seenAt 1).scalarRead (pas.drop 4)) } }

end Sys2Proof.Machine
end

