-- ==== Sys2Proof/Machine/Operands.lean ====
section
/-! DEFINITION. Evaluation of operand specifiers, in every addressing mode (R134, R144 to R148, R159). -/

namespace Sys2Proof.Machine

/-- What evaluating operands gives: a result, an exception the scalar processor takes (R407), or a refusal. -/
inductive Eval (α : Type) where
  | ok (a : α)
  | exception (e : Exc)
  | refused (r : Refusal)
  deriving Repr

/-- Go on from a result. -/
def Eval.bind {α β : Type} (x : Eval α) (f : α → Eval β) : Eval β :=
  match x with
  | .ok a => f a
  | .exception e => .exception e
  | .refused r => .refused r

/-- A translation as an evaluation: a failure is an ordinary scalar memory-management fault (R407). -/
def Eval.ofXlat {α : Type} : Except MmFault α → Eval α
  | .ok a => .ok a
  | .error f => .exception (.mm f)

/-- An evaluated operand: a value, an address, or where a result goes (R9, R201). -/
inductive Operand
  | value (q : Quad)
  | address (a : Long)
  | register (n : RegNo)
  | memory (pas : List Nat)
  deriving DecidableEq, Repr

/-- The value of an operand that has one. -/
def Operand.toQuad : Operand → Quad
  | .value q => q
  | .address a => a.zeroExtend 64
  | _ => 0

/-- Operands while they are evaluated: the state with the specifiers' side effects so far, and the physical
addresses read for them (R224). -/
structure Gathered (α : Type) where
  result : α
  state : State
  guards : List Nat
  deriving Repr

/-- Read `n` bytes at a virtual address as the scalar processor (R85, R106): read `at'` of the instruction's operands
(R107). -/
def scalarLoad (at' : Nat) (s : State) (va : Long) (n : Nat) : Eval (Nat × List Nat) :=
  (Eval.ofXlat (scalarTranslateBytes s s.mode false va n)).bind fun pas => .ok ((s.seenAt at').scalarRead pas, pas)

/-- A deferred mode: the address is stored at `va` (R134). Of operand `k` that is read `2k`. -/
def deferred (k : Nat) (s : State) (va : Long) : Eval (Gathered Long) :=
  (scalarLoad (2 * k) s va 4).bind fun r => .ok ⟨BitVec.ofNat 32 r.1, s, r.2⟩

/-- The address a memory specifier names, and its side effect on its register (R134). `size` is the operand's size,
1 for a base address (R148); `cursor` is the address after the specifier, which register 15 reads as; `k` is the operand's
place. -/
def evalBase (k size : Nat) (b : Base) (cursor : Long) (s : State) : Eval (Gathered Long) :=
  let sz := BitVec.ofNat 32 size
  match b with
  | .deferred n => .ok ⟨s.cpu.readReg n cursor, s, []⟩
  | .autodec n =>
    let a := s.cpu.readReg n cursor - sz
    .ok ⟨a, s.setReg n a, []⟩
  | .autoinc n =>
    let a := s.cpu.readReg n cursor
    .ok ⟨a, s.setReg n (a + sz), []⟩
  | .autoincDef n =>
    let a := s.cpu.readReg n cursor
    deferred k (s.setReg n (a + 4)) a
  | .absolute a => .ok ⟨a, s, []⟩
  | .disp8 n d => .ok ⟨s.cpu.readReg n cursor + d.signExtend 32, s, []⟩
  | .disp8Def n d => deferred k s (s.cpu.readReg n cursor + d.signExtend 32)
  | .disp16 n d => .ok ⟨s.cpu.readReg n cursor + d.signExtend 32, s, []⟩
  | .disp16Def n d => deferred k s (s.cpu.readReg n cursor + d.signExtend 32)
  | .disp32 n d => .ok ⟨s.cpu.readReg n cursor + d, s, []⟩
  | .disp32Def n d => deferred k s (s.cpu.readReg n cursor + d)

/-- What an operand at a memory address is (R9): its value, its address, or where the result goes. A destination is
checked for write access before anything else happens (D1). Of operand `k` the value is read `2k + 1`. -/
def evalMemory (k : Nat) (acc : Access) (g : Gathered Long) : Eval (Gathered Operand) :=
  match acc with
  | .ab => .ok ⟨.address g.result, g.state, g.guards⟩
  | .wl =>
    (Eval.ofXlat (scalarTranslateBytes g.state g.state.mode true g.result 4)).bind fun pas =>
      .ok ⟨.memory pas, g.state, g.guards⟩
  | .rw | .rl | .rq =>
    (scalarLoad (2 * k + 1) g.state g.result acc.size).bind fun r =>
      .ok ⟨.value (BitVec.ofNat 64 r.1), g.state, g.guards ++ r.2⟩

/-- The value of a register operand of `size` bytes: Rn, and for a quadword R[n+1] above it (R134). The longword
above R15 does not exist: a free value (log entry 17). -/
def registerValue (size : Nat) (n : RegNo) (cursor : Long) (s : State) : Gathered Operand :=
  let lo := s.cpu.readReg n cursor
  if size = 8 then
    if n = 15 then ⟨.value (Quad.mk (Quad.hi (Config.draw s.draws)) lo), s.spend, []⟩
    else ⟨.value (Quad.mk (s.cpu.readReg (n + 1) cursor) lo), s, []⟩
  else ⟨.value (BitVec.ofNat 64 (lo.toNat % 2 ^ (8 * size))), s, []⟩

/-- R144: the register is part of the source operand and an addressing mode of the instruction modifies it. Of a quadword at
R15 the register above is taken to be R0, so that where R0 is modified the whole operand is free: a DESIGN CHOICE, as the spec
does not say what lies above R15 (log entry 18). -/
def unpredictableRegister (size : Nat) (n : RegNo) (modified : List RegNo) : Bool :=
  modified.contains n || (decide (size = 8) && modified.contains (n + 1))

/-- Evaluate the specifier of operand `k` (R134). A literal or a register as an address, and a literal as a destination, are
reserved addressing modes (R134, R407). An index register is read after its base's side effect (log entry 17). That register
15 as index register is no reserved addressing mode, and indexes by the address after the specifier, is a DESIGN CHOICE (log
entry 19). -/
def evalSpec (k : Nat) (acc : Access) (modified : List RegNo) (sp : Spec) (cursor : Long) (s : State) :
    Eval (Gathered Operand) :=
  match sp with
  | .literal v =>
    match acc with
    | .ab | .wl => .exception .reservedMode
    | .rw | .rl | .rq => .ok ⟨.value (v.zeroExtend 64), s, []⟩
  | .reg n =>
    match acc with
    | .ab => .exception .reservedMode
    | .wl => .ok ⟨.register n, s, []⟩
    | .rw | .rl | .rq =>
      if unpredictableRegister acc.size n modified then
        .ok ⟨.value (BitVec.ofNat 64 ((Config.draw s.draws).toNat % 2 ^ (8 * acc.size))), s.spend, []⟩
      else .ok (registerValue acc.size n cursor s)
  | .immediate v =>
    match acc with
    | .ab => .ok ⟨.address (cursor - 1), s, []⟩
    | .wl => .refused .immediateDestination
    | .rw | .rl | .rq => .ok ⟨.value v, s, []⟩
  | .mem b => (evalBase k acc.size b cursor s).bind (evalMemory k acc)
  | .indexed x b =>
    (evalBase k acc.size b cursor s).bind fun g =>
      let index := g.state.cpu.readReg x cursor * BitVec.ofNat 32 acc.size
      evalMemory k acc { g with result := g.result + index }

/-- Evaluate the specifiers in stream order, first to last (R159), from operand `k` on. The result also holds the address
after the last one. -/
def evalSpecs (modified : List RegNo) : Nat → List Access → List Spec → Long → State →
    Eval (Gathered (List Operand × Long))
  | k, acc :: accs, sp :: sps, cursor, s =>
    let next := cursor + BitVec.ofNat 32 (sp.length acc.size)
    (evalSpec k acc modified sp next s).bind fun g =>
      (evalSpecs modified (k + 1) accs sps next g.state).bind fun gs =>
        .ok ⟨(g.result :: gs.result.1, gs.result.2), gs.state, g.guards ++ gs.guards⟩
  | _, _, _, cursor, s => .ok ⟨([], cursor), s, []⟩

/-- The registers that the addressing modes of an instruction modify (R144). -/
def modifiedRegs (sps : List Spec) : List RegNo := sps.filterMap Spec.modifies

/-- The physical addresses of the instruction's own bytes from `a` on, as far as they translate (R224). -/
def streamBytes (s : State) (a : Long) (n : Nat) : List Nat :=
  match scalarTranslateBytes s s.mode false a n with
  | .ok pas => pas
  | .error _ => []

/-- An instruction's evaluated operands: their values, the address of the next instruction, the state with the
specifiers' side effects, and the bytes the operands were read from. -/
structure Operands where
  ops : List Operand
  next : Long
  state : State
  guards : List Nat
  deriving Repr

/-- Evaluate the operands of the instruction at the PC, whose specifiers begin `header` bytes after it (R130, R159). That a
register which another specifier modifies gives a free value (R144) for MTPR and MFPR too is a DESIGN CHOICE (log entry
18). -/
def evalOperands (header : Nat) (accs : List Access) (sps : List Spec) (s : State) : Eval Operands :=
  let start := s.cpu.pc + BitVec.ofNat 32 header
  (evalSpecs (modifiedRegs sps) 0 accs sps start s).bind fun g =>
    let next := g.result.2
    .ok ⟨g.result.1, next, g.state, streamBytes s start (next - start).toNat ++ g.guards⟩

/-- The value of operand `k`. -/
def Operands.value (o : Operands) (k : Nat) : Quad := ((o.ops[k]?).map Operand.toQuad).getD 0

/-- Write a longword to a destination operand: a register, or memory as a scalar write (R111, R351). -/
def writeDest (d : Operand) (v : Long) (s : State) : State :=
  match d with
  | .register n => s.setReg n v
  | .memory pas => s.scalarWrite [cellsAt pas v.toNat]
  | _ => s

/-- Destination operand `k`. -/
def Operands.dest (o : Operands) (k : Nat) : Operand := (o.ops[k]?).getD (.value 0)

end Sys2Proof.Machine
end

