-- ==== Sys2Proof/Machine/Element.lean ====
section
/-! DEFINITION. Vector elements: masks over them, which of them an instruction processes (R180, R181), their operands and
free values, and the dependences that MFVP asks about (R190 to R196). -/

namespace Sys2Proof.Machine

/-- The 64-bit mask with bit `i` set where `f i`. -/
def maskOf (f : Nat → Bool) : Quad :=
  (List.range 64).foldl (fun m i => if f i then m ||| (1#64 <<< i) else m) 0

/-- The bits of `a` where `m` is set, else those of `b`. -/
def pick (m a b : Quad) : Quad := (a &&& m) ||| (b &&& ~~~m)

/-- Every element. -/
def allElements : Quad := BitVec.allOnes 64

/-- What one element's operation gives: the 64 bits written and the exception types (R277). Of a compare, bit 0 is the
relation. -/
structure Elem where
  val : Quad
  types : AexSet := 0
  deriving DecidableEq, Repr

/-- Elements whose result is a longword keep it in <31:0>; bits <63:32> are a free value (R21, U1). -/
def Elem.long (lo : Long) (free : Quad) (types : AexSet := 0) : Elem := ⟨Quad.mk free.hi lo, types⟩

/-- A truth value as an element, for the compares. -/
def Elem.bit (b : Bool) (types : AexSet := 0) : Elem := ⟨(BitVec.ofBool b).zeroExtend 64, types⟩

/-- What an instruction does on elements: each one's result, and whether its sources depend on an unreported exception
(R190). -/
structure Effect where
  src : Nat → Bool
  elem : Fin 64 → Elem

namespace Vp

/-- Element `i` of vector register `r` (R20). -/
def elem (p : Vp) (r : BitVec 4) (i : Fin 64) : Quad := (p.v[r.toNat])[i]

/-- Replace vector register `r`. -/
def setReg (p : Vp) (r : BitVec 4) (f : Fin 64 → Quad) : Vp :=
  { p with v := p.v.set r.toNat (Vector.ofFn f) }

/-- Where `onV` and `onMask` say so, elements and mask bits, with what they depend on, as VPSR<STS> stored them (R374). -/
def overlay (c : Sources) (onV : Vector Quad 16) (onMask : Quad) (p : Vp) : Vp :=
  { p with
    v := Vector.ofFn fun r => Vector.ofFn fun i => if onV[r].getLsbD i then c.v[r][i] else p.v[r][i]
    vmr := pick onMask c.vmr p.vmr
    taint := { p.taint with
      v := Vector.ofFn fun r => pick onV[r] c.taintV[r] p.taint.v[r]
      vmr := pick onMask c.taintMask p.taint.vmr } }

/-- Whether element `i` of register `r` was produced under an unreported exception (R190). -/
def tainted (p : Vp) (r : BitVec 4) (i : Nat) : Bool := (p.taint.v[r.toNat]).getLsbD i

end Vp

/-- Element `i` is below VLR and, where masks are enabled, selected by VMR (R181). For VMERGE and IOTA, whose MOE is
zero, it is every element below VLR (R183). -/
def QEntry.isActive (e : QEntry) (vmr : Quad) (i : Nat) : Bool := active e.cntrl e.len vmr i

/-- The union of the exception types of the processed elements (R185, R186). -/
def unionTypes (act : Nat → Bool) (f : Fin 64 → Elem) : AexSet :=
  (List.finRange 64).foldl (fun (t : AexSet) (i : Fin 64) => if act i.val then t ||| (f i).types else t) 0

/-- The first operand of element `i`: the Va element, or the scalar operand (R230, R279). -/
def firstOperand (p : Vp) (e : QEntry) (form : Form) (i : Fin 64) : Quad :=
  match form with
  | .vv => p.elem (fieldA e.cntrl) i
  | .vs => e.scalar

/-- Whether element `i`'s sources are tainted: Vb, and Va in the vector-vector form (R191). -/
def sourcesTainted (p : Vp) (e : QEntry) (form : Form) (i : Nat) : Bool :=
  p.tainted (fieldB e.cntrl) i ||
    (match form with
      | .vv => p.tainted (fieldA e.cntrl) i
      | .vs => false)

/-- Free value for element `i` of an operation whose draws begin at `n` (log entry 5). -/
def elemDraw (n : Nat) (i : Nat) : Quad := Config.draw (n + i)

/-- Free choice number `i` of an operation whose draws begin at `n`. -/
def choiceDraw (n : Nat) (i : Nat) : Quad := Config.draw (n + 64 + i)

/-- Which translation element `i` of an operation uses whose draws begin at `n`. -/
def rowDraw (n : Nat) (i : Nat) : Quad := Config.draw (n + 128 + i)

/-- Other free choices of an operation whose draws begin at `n`. -/
def miscDraw (n : Nat) (i : Nat) : Quad := Config.draw (n + 192 + i)

/-- Free value left in element `i` by an exception of an operation whose draws begin at `n` (R416). -/
def spoilDraw (n : Nat) (i : Nat) : Quad := Config.draw (n + 256 + i)

end Sys2Proof.Machine
end

