-- ==== Sys2Proof/Machine/IntegerOps.lean ====
section
/-! DEFINITION. Longword integer, logical and shift operations on elements (R230 to R261). -/

namespace Sys2Proof.Machine

/-- The true result of an integer operation on signed longwords (R231, R236, R238). -/
def intResult (op : IntOp) (a b : Long) : Int :=
  match op with
  | .add => a.toInt + b.toInt
  | .sub => a.toInt - b.toInt
  | .mul => a.toInt * b.toInt

/-- The true result is no signed longword (R240). -/
def intOverflows (t : Int) : Bool := decide (t < -2 ^ 31) || decide (2 ^ 31 ≤ t)

/-- One element of VADDL, VSUBL, VMULL: the low 32 bits of the true result; overflow is an exception where
`cntrl<EXC>` enables it (R231, R240). -/
def intElem (op : IntOp) (exc : Bool) (a b free : Quad) : Elem :=
  let t := intResult op a.lo b.lo
  Elem.long (BitVec.ofInt 32 t) free (if exc && intOverflows t then AexSet.integerOverflow else 0)

/-- VADDL, VSUBL, VMULL (R231 to R239). -/
def intArithEffect (op : IntOp) (form : Form) (e : QEntry) (p : Vp) : Effect where
  src := sourcesTainted p e form
  elem i := intElem op (exc e.cntrl) (firstOperand p e form i) (p.elem (fieldB e.cntrl) i) (elemDraw e.draw i)

/-- The Boolean function of a logical instruction (R251 to R253). The first operand of BIC is the mask (D33). -/
def logicFn (op : LogicOp) (a b : Long) : Long :=
  match op with
  | .bis => a ||| b
  | .xor => a ^^^ b
  | .bic => ~~~a &&& b

/-- One element of a logical instruction: bits <63:32> are copied from Vb (R250). -/
def logicElem (op : LogicOp) (a b : Quad) : Elem := ⟨Quad.mk b.hi (logicFn op a.lo b.lo), 0⟩

/-- VBIS, VXOR, VBIC (R250 to R256). -/
def logicalEffect (op : LogicOp) (form : Form) (e : QEntry) (p : Vp) : Effect where
  src := sourcesTainted p e form
  elem i := logicElem op (firstOperand p e form i) (p.elem (fieldB e.cntrl) i)

/-- A longword shifted by the low five bits of the count, zeros entering (R257). -/
def shiftFn (op : ShiftOp) (cnt x : Long) : Long :=
  let n := (cnt.extractLsb' 0 5).toNat
  match op with
  | .left => x <<< n
  | .right => x >>> n

/-- One element of a shift (R257). -/
def shiftElem (op : ShiftOp) (cnt x free : Quad) : Elem := Elem.long (shiftFn op cnt.lo x.lo) free

/-- VSL, VSR (R257 to R261). -/
def shiftEffect (op : ShiftOp) (form : Form) (e : QEntry) (p : Vp) : Effect where
  src := sourcesTainted p e form
  elem i := shiftElem op (firstOperand p e form i) (p.elem (fieldB e.cntrl) i) (elemDraw e.draw i)

/-- The relation of a compare function, from "less" and "equal" (R233, R311). Functions 3 and 7 are refused before. -/
def relation (fn : BitVec 3) (less equal : Bool) : Bool :=
  match fn.toNat with
  | 0 => !less && !equal
  | 1 => equal
  | 2 => less
  | 4 => less || equal
  | 5 => !equal
  | 6 => !less
  | _ => false

/-- The integer compare of two longwords, signed (R233, D32). -/
def intRelation (fn : BitVec 3) (a b : Long) : Bool := relation fn (a.slt b) (a == b)

/-- VCMPL (R234, R235). -/
def intCompareEffect (form : Form) (e : QEntry) (p : Vp) : Effect where
  src := sourcesTainted p e form
  elem i := Elem.bit (intRelation (compareFn e.cntrl) (firstOperand p e form i).lo (p.elem (fieldB e.cntrl) i).lo)

end Sys2Proof.Machine
end

