-- ==== Sys2Proof/Machine/Float.lean ====
section
/-! DEFINITION. F_, D_ and G_floating data, their exact arithmetic and VAX rounding, and the floating instructions'
element operations (R270 to R279, R310 to R312, R320 to R336). Formats and rounding as the spec supplies them
(log entry 25). -/

namespace Sys2Proof.Machine

namespace FloatFmt

/-- Fraction bits, without the hidden one (R271 to R273). -/
def fracBits : FloatFmt → Nat
  | .f => 23
  | .d => 55
  | .g => 52

/-- Precision: the significand's bits (R271 to R273). -/
def prec (t : FloatFmt) : Nat := t.fracBits + 1

/-- The exponent's excess (R271 to R273). -/
def bias : FloatFmt → Nat
  | .f => 128
  | .d => 128
  | .g => 1024

/-- The largest exponent field (R276). -/
def maxExp : FloatFmt → Nat
  | .f => 255
  | .d => 255
  | .g => 2047

/-- The exponent field (R271 to R273). -/
def expField (t : FloatFmt) (x : Quad) : Nat :=
  match t with
  | .f => (x.extractLsb' 7 8).toNat
  | .d => (x.extractLsb' 7 8).toNat
  | .g => (x.extractLsb' 4 11).toNat

/-- The fraction, the most significant bits first in the low word (R271 to R273). -/
def fracField (t : FloatFmt) (x : Quad) : Nat :=
  match t with
  | .f => (x.extractLsb' 0 7 ++ x.extractLsb' 16 16).toNat
  | .d => (x.extractLsb' 0 7 ++ x.extractLsb' 16 16 ++ x.extractLsb' 32 16 ++ x.extractLsb' 48 16).toNat
  | .g => (x.extractLsb' 0 4 ++ x.extractLsb' 16 16 ++ x.extractLsb' 32 16 ++ x.extractLsb' 48 16).toNat

/-- The pattern of a sign, an exponent field and a fraction (R271 to R273); an F pattern lies in <31:0>. -/
def pack (t : FloatFmt) (sign : Bool) (e f : Nat) : Quad :=
  let s : BitVec 1 := BitVec.ofBool sign
  let fw : BitVec 55 := BitVec.ofNat 55 f
  match t with
  | .f => (fw.extractLsb' 0 16 ++ (s ++ BitVec.ofNat 8 e ++ fw.extractLsb' 16 7)).zeroExtend 64
  | .d => fw.extractLsb' 0 16 ++ fw.extractLsb' 16 16 ++ fw.extractLsb' 32 16 ++
      (s ++ BitVec.ofNat 8 e ++ fw.extractLsb' 48 7)
  | .g => fw.extractLsb' 0 16 ++ fw.extractLsb' 16 16 ++ fw.extractLsb' 32 16 ++
      (s ++ BitVec.ofNat 11 e ++ fw.extractLsb' 48 4)

/-- The reserved operand: sign one, exponent zero (R274). -/
def isRsvd (t : FloatFmt) (x : Quad) : Bool := x.getLsbD 15 && decide (t.expField x = 0)

/-- Zero: sign zero, exponent zero, any fraction (R274). -/
def isZero (t : FloatFmt) (x : Quad) : Bool := !x.getLsbD 15 && decide (t.expField x = 0)

end FloatFmt

/-- An exact rational value. -/
structure Ratio where
  num : Int
  den : Nat
  deriving DecidableEq, Repr

namespace Ratio

/-- The value `m * 2^k`. -/
def ofScaled (m : Int) (k : Int) : Ratio :=
  if 0 ≤ k then ⟨m * 2 ^ k.toNat, 1⟩ else ⟨m, 2 ^ (-k).toNat⟩

/-- An integer's value. -/
def ofInt (n : Int) : Ratio := ⟨n, 1⟩

/-- The exact sum, difference, product and quotient. -/
def op (o : FloatOp) (a b : Ratio) : Ratio :=
  match o with
  | .add => ⟨a.num * b.den + b.num * a.den, a.den * b.den⟩
  | .sub => ⟨a.num * b.den - b.num * a.den, a.den * b.den⟩
  | .mul => ⟨a.num * b.num, a.den * b.den⟩
  | .div => ⟨a.num * b.den * b.num.sign, a.den * b.num.natAbs⟩

/-- Numeric order. -/
def less (a b : Ratio) : Bool := decide (a.num * b.den < b.num * a.den)

/-- Numeric equality. -/
def equal (a b : Ratio) : Bool := decide (a.num * b.den = b.num * a.den)

/-- The integer part, toward zero (R322 trunc). -/
def trunc (a : Ratio) : Int := a.num.sign * (a.num.natAbs / a.den : Nat)

/-- Rounded to an integer in sign magnitude, ties away from zero (R322 rnd). -/
def round (a : Ratio) : Int := a.num.sign * ((2 * a.num.natAbs + a.den) / (2 * a.den) : Nat)

end Ratio

/-- The value of a floating pattern (R271 to R274): zero where the exponent field is zero. -/
def FloatFmt.value (t : FloatFmt) (x : Quad) : Ratio :=
  let e := t.expField x
  if e = 0 then ⟨0, 1⟩
  else
    let m : Int := (2 ^ t.fracBits + t.fracField x : Nat)
    Ratio.ofScaled (if x.getLsbD 15 then -m else m) ((e : Int) - (t.bias : Int) - (t.prec : Int))

/-- A rounded magnitude `mant * 2^(exp - prec)` with a sign: the significand lies in one half to one (R275). -/
structure Rounded where
  neg : Bool
  exp : Int
  mant : Nat
  deriving DecidableEq, Repr

/-- `a / d` times `2^k`, as a numerator and a denominator. -/
def scalePair (a d : Nat) (k : Int) : Nat × Nat :=
  if 0 ≤ k then (a * 2 ^ k.toNat, d) else (a, d * 2 ^ (-k).toNat)

/-- Round a nonzero value to `p` significant bits, to nearest, ties away from zero, with an unbounded exponent
(R275). -/
def roundTo (p : Nat) (x : Ratio) : Rounded :=
  let a := x.num.natAbs
  let k : Int := (Nat.log2 a : Int) - (Nat.log2 x.den : Int)
  let low := scalePair a x.den (-k)
  let e : Int := if low.2 ≤ low.1 then k + 1 else k
  let scaled := scalePair a x.den ((p : Int) - e)
  let q := (2 * scaled.1 + scaled.2) / (2 * scaled.2)
  if q = 2 ^ p then ⟨decide (x.num < 0), e + 1, 2 ^ (p - 1)⟩ else ⟨decide (x.num < 0), e, q⟩

/-- The result of rounding an exact value into a format (R276): the pattern, or the exception. -/
def FloatFmt.encode (t : FloatFmt) (x : Ratio) (exc : Bool) : Except AexSet Quad :=
  if x.num = 0 then .ok 0
  else
    let r := roundTo t.prec x
    let e := r.exp + (t.bias : Int)
    if (t.maxExp : Int) < e then .error AexSet.overflow
    else if e < 1 then (if exc then .error AexSet.underflow else .ok 0)
    else .ok (t.pack r.neg e.toNat (r.mant - 2 ^ t.fracBits))

/-- The types recorded when a reserved operand is divided by zero: a nonempty subset of the two (R278, U45). -/
def rsvdDivideTypes (pick : Quad) : AexSet :=
  match (pick.extractLsb' 0 2).toNat with
  | 0 => AexSet.reservedOperand
  | 1 => AexSet.divideByZero
  | _ => AexSet.reservedOperand ||| AexSet.divideByZero

/-- FArith of one element (R276): the pattern, or the exception types. -/
def farith (t : FloatFmt) (op : FloatOp) (a b : Quad) (exc : Bool) (pick : Quad) : Except AexSet Quad :=
  let byZero := decide (op = .div) && t.isZero b
  if t.isRsvd a || t.isRsvd b then
    .error (if byZero then rsvdDivideTypes pick else AexSet.reservedOperand)
  else if byZero then .error AexSet.divideByZero
  else t.encode (Ratio.op op (t.value a) (t.value b)) exc

/-- The encoded reserved operand (R278): sign one, exponent zero, the exception types in <3:0>; every bit above
<15:0> is a free value (U44). -/
def encRsvd (types : AexSet) (free : Quad) : Quad :=
  free.extractLsb' 16 48 ++ ((0x800#12 : BitVec 12) ++ types.extractLsb' 0 4)

/-- An F result lies in <31:0>, with <63:32> free (R21, U1); a D or G result is the whole element. -/
def FloatFmt.place (t : FloatFmt) (x free : Quad) : Quad :=
  match t with
  | .f => Quad.mk free.hi x.lo
  | .d => x
  | .g => x

/-- An element's result from an arithmetic outcome (R279): the value, or the encoded reserved operand with its
types. -/
def FloatFmt.elem (t : FloatFmt) (r : Except AexSet Quad) (free : Quad) : Elem :=
  match r with
  | .ok x => ⟨t.place x free, 0⟩
  | .error types => ⟨encRsvd types free, types⟩

/-- VADD, VSUB, VMUL, VDIV on floating data (R279). -/
def floatArithEffect (t : FloatFmt) (op : FloatOp) (form : Form) (e : QEntry) (p : Vp) : Effect where
  src := sourcesTainted p e form
  elem i :=
    t.elem (farith t op (firstOperand p e form i) (p.elem (fieldB e.cntrl) i) (exc e.cntrl) (choiceDraw e.draw i))
      (elemDraw e.draw i)

/-- One floating compare (R310): a reserved operand leaves the bit a free value and is the exception. -/
def floatCompare (t : FloatFmt) (fn : BitVec 3) (a b free : Quad) : Elem :=
  if t.isRsvd a || t.isRsvd b then Elem.bit (free.getLsbD 0) AexSet.reservedOperand
  else Elem.bit (relation fn ((t.value a).less (t.value b)) ((t.value a).equal (t.value b)))

/-- VCMPF, VCMPD, VCMPG (R310 to R318). -/
def floatCompareEffect (t : FloatFmt) (form : Form) (e : QEntry) (p : Vp) : Effect where
  src := sourcesTainted p e form
  elem i :=
    floatCompare t (compareFn e.cntrl) (firstOperand p e form i) (p.elem (fieldB e.cntrl) i) (elemDraw e.draw i)

/-- A longword converted to a floating format (R323 to R325); it neither overflows nor underflows. -/
def convertFromLong (t : FloatFmt) (x free : Quad) : Elem :=
  t.elem (t.encode (Ratio.ofInt x.lo.toInt) false) free

/-- A floating value converted to a longword (R326, R327, R330, R332, R333, R335): a reserved operand leaves a free
value (U21); overflow is an exception where EXC enables it. -/
def convertToLong (t : FloatFmt) (rounded exc : Bool) (x free : Quad) : Elem :=
  if t.isRsvd x then ⟨free, AexSet.reservedOperand⟩
  else
    let n := if rounded then (t.value x).round else (t.value x).trunc
    Elem.long (BitVec.ofInt 32 n) free (if exc && intOverflows n then AexSet.integerOverflow else 0)

/-- A floating value converted to another format (R328, R329, R331, R334). -/
def convertFloat (src dst : FloatFmt) (exc : Bool) (x free : Quad) : Elem :=
  dst.elem (if src.isRsvd x then .error AexSet.reservedOperand else dst.encode (src.value x) exc) free

/-- The convert function of `cntrl<11:8>` on one element (R321). Functions 0, 11 and 14 are refused before. -/
def convertElem (fn : BitVec 4) (exc : Bool) (x free : Quad) : Elem :=
  match fn.toNat with
  | 1 => convertFromLong .f x free
  | 2 => convertFromLong .d x free
  | 3 => convertFromLong .g x free
  | 4 => convertToLong .f false exc x free
  | 5 => convertToLong .f true exc x free
  | 6 => convertFloat .f .d exc x free
  | 7 => convertFloat .f .g exc x free
  | 8 => convertToLong .d false exc x free
  | 9 => convertFloat .d .f exc x free
  | 10 => convertToLong .d true exc x free
  | 12 => convertToLong .g false exc x free
  | 13 => convertFloat .g .f exc x free
  | 15 => convertToLong .g true exc x free
  | _ => ⟨x, 0⟩

/-- VVCVT (R320 to R336). -/
def convertEffect (e : QEntry) (p : Vp) : Effect where
  src := p.tainted (fieldB e.cntrl)
  elem i := convertElem (fieldA e.cntrl) (exc e.cntrl) (p.elem (fieldB e.cntrl) i) (elemDraw e.draw i)

end Sys2Proof.Machine
end

