-- ==== Sys2Proof/Machine/EditOps.lean ====
section
/-! DEFINITION. VMERGE and IOTA on the vector registers (R340 to R343). -/

namespace Sys2Proof.Machine

/-- Whether VMR<i> matches `cntrl<MTF>`; MOE plays no part (R183). -/
def matchesMtf (p : Vp) (c : Word) (i : Nat) : Bool := p.vmr.getLsbD i == mtf c

/-- VMERGE (R340 to R342): the first operand where the mask matches, else Vb, all 64 bits. Dependences as Table 10-11
(R195). -/
def mergeEffect (form : Form) (e : QEntry) (p : Vp) : Effect where
  src i :=
    p.taint.vmr.getLsbD i ||
      (if matchesMtf p e.cntrl i then (match form with | .vv => p.tainted (fieldA e.cntrl) i | .vs => false)
        else p.tainted (fieldB e.cntrl) i)
  elem i := ⟨if matchesMtf p e.cntrl i then firstOperand p e form i else p.elem (fieldB e.cntrl) i, 0⟩

/-- The positions below VLR whose mask bit matches, in rising order (R343). -/
def iotaPositions (e : QEntry) (p : Vp) : List Nat :=
  (List.range e.len.toNat).filter fun i => matchesMtf p e.cntrl i

/-- IOTA (R343): the offsets `i * stride` of the matching positions, compressed; the rest up to VLR is free.
Dependences as Table 10-12 (R196). -/
def iotaEffect (e : QEntry) (p : Vp) : Effect where
  src j :=
    match (iotaPositions e p)[j]? with
    | some i => (List.range (i + 1)).any fun k => p.taint.vmr.getLsbD k
    | none => false
  elem j :=
    match (iotaPositions e p)[j.val]? with
    | some i => Elem.long (BitVec.ofNat 32 i * e.scalar.lo) (elemDraw e.draw j)
    | none => ⟨elemDraw e.draw j, 0⟩

end Sys2Proof.Machine
end

