-- ==== Sys2Proof/Machine/Pending.lean ====
section
/-! DEFINITION. Pending instructions (R53, R179, R187 to R190; log entry 2): what each one's finished elements make of the
registers, which elements and mask bits later instructions may read already, and when an instruction leaves the queue. -/

namespace Sys2Proof.Machine

/-- MTVP writes its register (R360 to R364); it depends on nothing (R198). -/
def writeCtrl (r : CtrlReg) (v : Long) (p : Vp) : Vp :=
  match r with
  | .vcr => { p with vcr := v.extractLsb' 0 7, taint := { p.taint with vcr := false } }
  | .vlr => { p with vlr := v.extractLsb' 0 7 }
  | .vmrlo => { p with
      vmr := Quad.mk p.vmr.hi v
      taint := { p.taint with vmr := Quad.mk p.taint.vmr.hi 0 } }
  | .vmrhi => { p with
      vmr := Quad.mk v p.vmr.lo
      taint := { p.taint with vmr := Quad.mk 0 p.taint.vmr.lo } }

/-- Whether an instruction takes a vector control word and so uses VLR (R24, R25). -/
def VOp.usesLength : VOp → Bool
  | .mtvp _ | .vsync | .undefine _ => false
  | _ => true

/-- A vector memory access instruction (R13). -/
def VOp.isMemory : VOp → Bool
  | .load .. | .store .. => true
  | _ => false

/-- Its destination is vector register Vc. -/
def VOp.writesReg : VOp → Bool
  | .intArith .. | .logical .. | .shift .. | .floatArith .. | .convert | .merge _ | .iota | .load ..
  | .undefine _ => true
  | .intCompare _ | .floatCompare .. | .store .. | .mtvp _ | .vsync => false

/-- Its destination is VMR, bit by bit (R234, R310). -/
def VOp.writesMask : VOp → Bool
  | .intCompare _ | .floatCompare .. => true
  | _ => false

/-- A gather whose source register is its destination (R225), given up or not. -/
def QEntry.sameRegister (e : QEntry) : Bool :=
  match e.op with
  | .load _ .indexed | .undefine .indexed => decide (fieldB e.cntrl = fieldC e.cntrl)
  | _ => false

/-- The instruction is suspended (R413). -/
def QEntry.suspended (e : QEntry) : Bool := e.fault.isSome && decide (e.phase = .suspended)

/-- The reference that met an exception is still to be retried (R172). -/
def QEntry.retrying (e : QEntry) : Bool := e.fault.isSome && decide (e.phase = .retrying)

/-- A gather into its own source makes every element of that register any value (R225, U3), also where it loads none: unless it
was given up before it had accessed any (log entry 55). -/
def QEntry.replaces (e : QEntry) : Bool := e.sameRegister && (decide (e.done ≠ 0) || decide (e.left = 0))

/-- The elements of its destination that an instruction has written: those that are finished; of a gather into its own
source, all. -/
def QEntry.written (e : QEntry) : Quad := if e.replaces then allElements else e.done

/-- What an instruction writes in element `i`: its result; of a gather into its own source that has loaded nothing, a free
value (R225). -/
def QEntry.result (e : QEntry) (i : Fin 64) : Quad :=
  if e.sameRegister && decide (e.done = 0) then elemDraw e.draw i else e.res[i]

/-- The elements below VLR. -/
def QEntry.below (e : QEntry) : Quad := maskOf fun i => decide (i < e.len.toNat)

/-- The registers as an instruction reads them (R56, R188): what VPSR<STS> stored with it does not change. -/
def QEntry.sees (e : QEntry) (p : Vp) : Vp :=
  match e.copy with
  | none => p
  | some c => p.overlay c c.readyV c.readyMask

/-- The registers that an instruction's results go into: what VPSR<STS> found undecided of its destination, and it then
leaves alone, is as it was (R22; log entry 32). -/
def QEntry.onto (e : QEntry) (p : Vp) : Vp :=
  match e.copy with
  | none => p
  | some c =>
    let none' : Vector Quad 16 := Vector.replicate 16 0
    p.overlay c (if e.op.writesReg then none'.set (fieldC e.cntrl).toNat c.kept else none')
      (if e.op.writesMask then c.kept else 0)

/-- The elements of its destination that were undecided when VPSR<STS> stored an instruction. -/
def QEntry.kept (e : QEntry) : Quad := (e.copy.map Sources.kept).getD 0

/-- The dependences of an instruction's destination (R191, R192, R194, R195): a written element has its own, one that
is not processed keeps the old one, and below VLR, with masks, every one depends on its mask bit, as `seen` has it. An element
that the instruction was given up before has its old value, and depends on what that depended on, and on nothing else (R354). -/
def QEntry.taintDest (e : QEntry) (seen : Vp) (old : Quad) : Quad :=
  maskOf fun i =>
    if e.left.getLsbD i && !e.written.getLsbD i then old.getLsbD i
    else
      (if e.written.getLsbD i then e.tainted.getLsbD i else old.getLsbD i && !e.isActive seen.vmr i) ||
        (moe e.cntrl && decide (i < e.len.toNat) && seen.taint.vmr.getLsbD i)

/-- What an instruction has written in its destination register. -/
def QEntry.settleReg (e : QEntry) (seen p : Vp) : Vp :=
  let vc := fieldC e.cntrl
  { p.setReg vc (fun i => if e.written.getLsbD i then e.result i else p.elem vc i) with
    taint := { p.taint with v := p.taint.v.set vc.toNat (e.taintDest seen (p.taint.v[vc.toNat])) } }

/-- The physical addresses that a store has written under an unreported exception (R193), also where it then met a
memory-management exception (R416). -/
def QEntry.taintedPlaces (e : QEntry) : List Nat :=
  (e.parts ++ e.early).flatMap fun q => if e.tainted.getLsbD q.elem then List.range' q.pa q.len else []

/-- Something that a memory instruction has loaded or stored depends on an unreported exception (R192, R193, R357). -/
def QEntry.movedTainted (e : QEntry) : Bool := e.op.isMemory && decide (e.tainted ≠ 0)

/-- Whether VCR depends on an unreported exception: behind IOTA, on the mask bits below VLR (R196); where IOTA was given up
before it gave the count, as before it. -/
def QEntry.taintCount (e : QEntry) (seen p : Vp) : Bool :=
  if e.count.isNone && decide (e.left ≠ 0) then p.taint.vcr
  else (List.range e.len.toNat).any fun k => seen.taint.vmr.getLsbD k

/-- The mask bits of a masked store depend on an unreported exception (R193; X16: of all elements below VLR). -/
def QEntry.maskTainted (e : QEntry) (seen : Vp) : Bool := moe e.cntrl && decide (e.below &&& seen.taint.vmr ≠ 0)

/-- What an instruction's finished elements make of the registers `p` and of the dependences (R191 to R196, R198); its mask
is that of the registers `seen`. -/
def QEntry.settleOn (e : QEntry) (seen p : Vp) : Vp :=
  match e.op with
  | .mtvp r => writeCtrl r e.scalar.lo p
  | .vsync => { p with taint := { p.taint with stored := [], synced := p.taint.stored ++ p.taint.synced } }
  | .intCompare _ | .floatCompare .. =>
    { p with
      vmr := maskOf fun i =>
        if h : i < 64 then (if e.done.getLsbD i then (e.res[i]).getLsbD 0 else p.vmr.getLsbD i) else false
      taint := { p.taint with vmr := e.taintDest seen p.taint.vmr } }
  | .store .. =>
    { p with taint := { p.taint with
        mem := p.taint.mem || e.movedTainted || e.maskTainted seen
        stored := e.taintedPlaces ++ p.taint.stored } }
  | .load .. =>
    let p' := e.settleReg seen p
    { p' with taint := { p'.taint with mem := p'.taint.mem || e.movedTainted } }
  | .iota =>
    let p' := e.settleReg seen p
    { p' with
      vcr := e.count.getD p.vcr
      taint := { p'.taint with vcr := e.taintCount seen p } }
  | .intArith .. | .logical .. | .shift .. | .floatArith .. | .convert | .merge _ | .undefine _ => e.settleReg seen p

/-- What an instruction's finished elements make of the registers and of the dependences. -/
def QEntry.settle (e : QEntry) (p : Vp) : Vp := e.settleOn (e.sees p) (e.onto p)

/-- The elements, mask bits and VCR that have the values an instruction is to read (R189, R190). -/
structure Ready where
  v : Vector Quad 16 := Vector.replicate 16 allElements
  vmr : Quad := allElements
  vcr : Bool := true

/-- The registers as an instruction at some place in issue order is to read them, as far as they are ready. -/
structure View where
  p : Vp
  ready : Ready := {}

namespace View

/-- Element `i` of register `r` is ready. -/
def hasElem (w : View) (r : BitVec 4) (i : Nat) : Bool := (w.ready.v[r.toNat]).getLsbD i

/-- The view as an instruction has it: what VPSR<STS> stored with it is known, and as it was. -/
def under (w : View) (e : QEntry) : View :=
  match e.copy with
  | none => w
  | some c =>
    ⟨e.sees w.p, { w.ready with
      v := Vector.ofFn fun r => w.ready.v[r] ||| c.readyV[r]
      vmr := w.ready.vmr ||| c.readyMask }⟩

/-- It is known whether element `i` is selected by the mask. -/
def knowsMask (w : View) (e : QEntry) (i : Nat) : Bool := !moe e.cntrl || (w.under e).ready.vmr.getLsbD i

/-- The elements below VLR that are still to be executed, or may be, the mask being unknown. -/
def openElems (w : View) (e : QEntry) : Quad :=
  maskOf fun i =>
    decide (i < e.len.toNat) && !e.done.getLsbD i && !e.left.getLsbD i && (!w.knowsMask e i || e.isActive (e.sees w.p).vmr i)

/-- Nothing of the instruction is still to be executed. MTVP and VSYNC depend on nothing (R198). -/
def complete (w : View) (e : QEntry) : Bool := decide (w.openElems e = 0)

/-- What of an instruction's destination is ready (R187), of which `old` was before it: above VLR what was ready before;
below, the written elements and those it leaves alone, as far as they are not open. Without chaining nothing is, before the
instruction is complete. A gather into its own source may still leave all as they were (R225), as long as it has finished
none. -/
def destReady (w : View) (e : QEntry) (chaining : Bool) (old : Quad) : Quad :=
  let still := w.openElems e
  let mine := e.written ||| old ||| e.kept
  if e.sameRegister && decide (e.done = 0) && decide (still ≠ 0) then 0
  else maskOf fun i =>
    mine.getLsbD i && (decide (e.len.toNat ≤ i) || ((chaining || decide (still = 0)) && !still.getLsbD i))

/-- What of an instruction's destination is ready before it. -/
def destBefore (w : View) (e : QEntry) : Quad :=
  if e.op.writesReg then w.ready.v[(fieldC e.cntrl).toNat] else if e.op.writesMask then w.ready.vmr else 0

/-- What is ready behind an instruction. -/
def readyAfter (w : View) (e : QEntry) (chaining : Bool) : Ready :=
  let r := w.ready
  let vc := (fieldC e.cntrl).toNat
  match e.op with
  | .mtvp .vcr => { r with vcr := true }
  | .mtvp .vlr | .vsync | .store .. => r
  | .mtvp .vmrlo => { r with vmr := Quad.mk r.vmr.hi (BitVec.allOnes 32) }
  | .mtvp .vmrhi => { r with vmr := Quad.mk (BitVec.allOnes 32) r.vmr.lo }
  | .intCompare _ | .floatCompare .. => { r with vmr := w.destReady e chaining r.vmr }
  | .iota => { r with v := r.v.set vc (w.destReady e chaining r.v[vc]), vcr := w.complete e }
  | .intArith .. | .logical .. | .shift .. | .floatArith .. | .convert | .merge _ | .load ..
  | .undefine _ =>
    { r with v := r.v.set vc (w.destReady e chaining r.v[vc]) }

/-- The view behind an instruction. -/
def pass (chaining : Bool) (w : View) (e : QEntry) : View := ⟨e.settle w.p, w.readyAfter e chaining⟩

end View

/-- The view at place `k` of the queue, behind all older instructions (R190). -/
def viewTo (s : State) (k : Nat) : View := (s.vp.queue.take k).foldl (View.pass s.cfg.chaining) ⟨s.vp, {}⟩

/-- The view that the instruction at place `k` has (R189, R190). -/
def viewAt (s : State) (k : Nat) (e : QEntry) : View := (viewTo s k).under e

/-- The view behind everything that is pending. -/
def viewAll (s : State) : View := viewTo s s.vp.queue.length

/-- Each pending instruction with its view. -/
def entryViews (s : State) : List (View × QEntry) :=
  s.vp.queue.mapIdx fun k e => (viewAt s k e, e)

/-- VLR as a newly issued instruction is to use it (R189): MTVLR is the only writer and depends on nothing. -/
def currentLength (p : Vp) : BitVec 7 :=
  p.queue.foldl (fun l e => match e.op with | .mtvp .vlr => e.scalar.extractLsb' 0 7 | _ => l) p.vlr

/-- The oldest instructions leave the queue as long as they are complete. -/
def retireList : List QEntry → Vp → Vp
  | [], p => { p with queue := [] }
  | e :: q, p => if View.complete ⟨p, {}⟩ e then retireList q (e.settle p) else { p with queue := e :: q }

/-- The oldest instructions leave the queue as long as they are complete; their results are now in the registers. -/
def Vp.retire (p : Vp) : Vp := retireList p.queue p

/-- The positions whose mask bits, and all before them, are known. -/
def knownPrefix (w : View) (e : QEntry) : List Nat := (List.range e.len.toNat).takeWhile fun i => w.ready.vmr.getLsbD i

/-- Element `j` of IOTA is determined by the mask bits that are known (R196). -/
def iotaKnown (w : View) (e : QEntry) (j : Nat) : Bool :=
  let known := knownPrefix w e
  decide (known.length = e.len.toNat) || decide (j < (known.filter fun i => matchesMtf w.p e.cntrl i).length)

/-- The vector registers whose element `i` element `i` of an instruction reads (R191 to R195); of VMERGE, may read. -/
def QEntry.sources (e : QEntry) : List (BitVec 4) :=
  match e.op with
  | .intArith _ .vv | .logical _ .vv | .shift _ .vv | .floatArith _ _ .vv | .intCompare .vv | .floatCompare _ .vv
  | .merge .vv => [fieldA e.cntrl, fieldB e.cntrl]
  | .intArith _ .vs | .logical _ .vs | .shift _ .vs | .floatArith _ _ .vs | .intCompare .vs | .floatCompare _ .vs
  | .merge .vs | .convert | .load _ .indexed | .undefine .indexed => [fieldB e.cntrl]
  | .store _ .strided => [fieldC e.cntrl]
  | .store _ .indexed => [fieldC e.cntrl, fieldB e.cntrl]
  | .load _ .strided | .undefine .strided | .iota | .mtvp _ | .vsync => []

/-- The vector register that VMERGE reads for element `i` (R195); the scalar operand is none. -/
def mergeSource (e : QEntry) (f : Form) (p : Vp) (i : Nat) : List (BitVec 4) :=
  if matchesMtf p e.cntrl i then (match f with | .vv => [fieldA e.cntrl] | .vs => []) else [fieldB e.cntrl]

/-- The registers element `i` reads are ready (R190 to R196). -/
def sourcesReady (w : View) (e : QEntry) (i : Nat) : Bool :=
  match e.op with
  | .merge f => w.ready.vmr.getLsbD i && (mergeSource e f w.p i).all fun r => w.hasElem r i
  | .iota => iotaKnown w e i
  | _ => e.sources.all fun r => w.hasElem r i

/-- What the elements of a load's destination depend on besides its accesses (R192): with masks on VMR, of a gather on its
offsets. -/
def loadDepends (ad : Addressing) (e : QEntry) (p : Vp) : Quad :=
  (if moe e.cntrl then p.taint.vmr else 0) |||
    (match ad with | .indexed => p.taint.v[(fieldB e.cntrl).toNat] | .strided => 0)

/-- A load that met an exception leaves free values in the elements `m` of its destination that it has not loaded, and in
those that the exception has left UNPREDICTABLE since they were loaded (R416). -/
def QEntry.free (ad : Addressing) (p : Vp) (m : Quad) (e : QEntry) : QEntry :=
  { e with
    done := e.done ||| m
    res := Vector.ofFn fun i => if (e.spoil ||| m).getLsbD i then spoilDraw e.draw i else e.res[i]
    tainted := e.tainted ||| (m &&& loadDepends ad e p) }

/-- The load of the synchronous method that is backed up (R412): free values in every active element of its destination, and
in all 64 for a gather whose source is its destination (R225). What they depend on is as before it. -/
def backedUp (w : View) (e : QEntry) (ad : Addressing) : QEntry :=
  { e with
    op := .undefine ad
    started := true
    len := 0
    done := if e.sameRegister then allElements else maskOf fun i => e.isActive w.p.vmr i
    res := Vector.ofFn fun i => spoilDraw e.draw i
    tainted := w.p.taint.v[(fieldC e.cntrl).toNat] }

/-- An instruction that goes no further: what it has not executed it leaves as it is. Of what VPSR<STS> found undecided of its
destination, only what a later instruction could read by now is as it was then (log entry 32); the rest stays as the registers
have it. -/
def QEntry.halt (chaining : Bool) (w : View) (e : QEntry) : QEntry :=
  { e with
    left := e.left ||| w.openElems e
    copy := e.copy.map fun c => { c with kept := c.kept &&& w.destReady e chaining (w.destBefore e) } }

/-- A suspended instruction that is given up (R377). Of a load, what its exception has left UNPREDICTABLE is free (R416), and
all 64 elements for a gather whose source is its destination (R225), as soon as it is known that the mask selects an element
and what it depends on (R192); what VPSR<RLD> has brought back and has not been retried leaves its destination alone. Of a
store, what it has written stays. -/
def abandoned (chaining : Bool) (w : View) (e : QEntry) : QEntry :=
  match e.op with
  | .load _ ad =>
    if e.spoil = 0 then
      let e' := { e.halt chaining w with op := .undefine ad, fault := none }
      { e' with done := e'.written }
    else
      let open' := w.openElems e
      let e' := { e with op := .undefine ad, fault := none }
      e'.free ad w.p (maskOf fun i => open'.getLsbD i && w.knowsMask e i && sourcesReady w e' i)
  | _ => { e with done := e.done ||| e.below, fault := none }

/-- An instruction as VPSR<RST> or a flush gives it up (R373, R423), `p` being the registers as those before it, given up too,
leave them: what it has finished stays in the registers, the rest of its destination is as before it. What a load's exception
has left UNPREDICTABLE is free, unless it is complete since (R416, R417), also where it is not known whether the mask selects
an element, as the instruction that tells is given up too. -/
def givenUp (chaining : Bool) (w : View) (p : Vp) (e : QEntry) : QEntry :=
  if w.complete e then e
  else
    match e.op with
    | .load _ ad | .undefine ad =>
      { e.halt chaining w with op := .undefine ad }.free ad (e.sees p) (w.openElems e &&& e.spoil)
    | _ => e.halt chaining w

/-- What giving up an instruction makes of the registers and of the dependences. What a load has loaded goes on making MSYNC
report, what it will not load does not (R357). -/
def giveUp (chaining : Bool) (p : Vp) (x : View × QEntry) : Vp :=
  let q := (givenUp chaining x.1 p x.2).settle p
  { q with taint := { q.taint with mem := q.taint.mem || x.2.movedTainted } }

end Sys2Proof.Machine
end

