-- ==== Sys2Proof/Machine/VectorMemory.lean ====
section
/-! DEFINITION. Vector memory references: element addresses, translation and checks as the vector processor makes
them, the order that VSYNC gives, and the transfers of VLD, VGATH, VST and VSCAT (R84 to R107, R210 to R225, R408, R409,
R416). -/

namespace Sys2Proof.Machine

/-- Bytes per element (R83). -/
def ElemSize.bytes : ElemSize → Nat
  | .long => 4
  | .quad => 8

/-- The element's address (R211): modulo 2^32, only bits <31:0> of the stride or the offset. -/
def elemAddress (ad : Addressing) (e : QEntry) (p : Vp) (i : Fin 64) : Long :=
  match ad with
  | .strided => e.base + BitVec.ofNat 32 i * e.scalar.lo
  | .indexed => e.base + (p.elem (fieldB e.cntrl) i).lo

/-- The memory-management registers vector references are translated with (R112). -/
def vectorRegs (s : State) : MmRegs :=
  match s.cfg.vectorMmRegs with
  | .ownCopies => s.vp.mm
  | .scalarMmu => s.cpu.mm

/-- The page tables' row for an address, as the vector processor walks them (R90). -/
def walkRow (s : State) (va : Long) : Option MapRow := findRow s.pageMap (vectorRegs s) va

/-- The cached translations that a reference of an instruction may use instead, where they differ from the page tables
(R117): those of the translation buffer, and those it had when the instruction was issued (R388). -/
def staleRows (s : State) (e : QEntry) (va : Long) : List MapRow :=
  match s.cfg.vectorTb with
  | .shared => []
  | .own =>
    (s.vp.tb ++ e.tb).filter fun r =>
      decide (r.va ≤ va.toNat) && decide (va.toNat < r.va + r.len) && decide (some r ≠ walkRow s va)

/-- The row a vector reference uses: the page tables', or any cached one; a free choice (R117). -/
def vectorRow (s : State) (e : QEntry) (pick : Quad) (va : Long) : Option MapRow :=
  match staleRows s e va with
  | [] => walkRow s va
  | rs => match rs[pick.toNat % (rs.length + 1)]? with
    | some r => some r
    | none => walkRow s va

/-- Some byte of `[pa, pa + n)` lies in one of the ranges (R88, R89). -/
def inRanges (ranges : List (Nat × Nat)) (pa n : Nat) : Bool :=
  ranges.any fun r => decide (pa < r.1 + r.2) && decide (r.1 < pa + n)

/-- Two ranges of bytes have one in common. -/
def overlap (a m b n : Nat) : Bool := decide (a < b + n) && decide (b < a + m)

/-- The check of one element's reference (R408, R409): its physical address, the exceptions it may report, or a
refusal. -/
inductive RefCheck
  | ok (pa : Nat)
  | fails (fs : List MmFault)
  | refused (r : Refusal)
  deriving DecidableEq, Repr

/-- Where a row puts an address, if it is valid there (R90). -/
def placeOf (row : Option MapRow) (va : Long) : Option Nat :=
  match row with
  | some r => if r.valid && !r.lengthViolation then some (r.pa + (va.toNat - r.va)) else none
  | none => none

/-- Every kind of access control violation of a reference (R408): alignment, protection or length, I/O space. -/
def violations (c : Config) (mode : BitVec 2) (write : Bool) (size : Nat) (row : Option MapRow) (va : Long) :
    List MmFault :=
  let plain := scalarParam c false false write
  (if va.toNat % size ≠ 0 then [⟨.accessViolation, plain ||| paramBit c.faultBits.valBit true, va⟩] else []) ++
  (match row with
    | some r =>
      if r.lengthViolation || !r.allows mode write then
        [⟨.accessViolation, scalarParam c r.lengthViolation r.pteReference write, va⟩]
      else []
    | none => []) ++
  (match placeOf row va with
    | some pa =>
      if c.setsVio && inRanges c.ioSpace pa size then
        [⟨.accessViolation, plain ||| paramBit c.faultBits.vioBit true, va⟩]
      else []
    | none => [])

/-- Check one reference. Access control violations come before translation not valid and modify, and any that applies
may be reported (R409, U18); page tables and I/O space that no exception reports are refused (R88, R89). -/
def checkRef (s : State) (mode : BitVec 2) (write : Bool) (size : Nat) (row : Option MapRow) (va : Long) : RefCheck :=
  let vs := violations s.cfg mode write size row va
  if !vs.isEmpty then .fails vs
  else
    let refused := match placeOf row va with
      | some pa =>
        if inRanges s.cfg.pageTables pa size then some Refusal.pageTable
        else if inRanges s.cfg.ioSpace pa size then some Refusal.ioSpace
        else none
      | none => none
    match refused, judge s.cfg row mode write va with
    | some r, _ => .refused r
    | none, .error f => .fails [f]
    | none, .ok pa => .ok pa

/-- What a list of element references comes to. -/
structure Refs where
  /-- element numbers and physical addresses of the references that pass -/
  oks : List (Nat × Nat) := []
  /-- every exception that some reference may report -/
  faults : List MmFault := []
  refusal : Option Refusal := none
  /-- the page-table rows walked (R94) -/
  rows : List MapRow := []
  deriving DecidableEq, Repr

/-- Check the references of the listed elements, whose addresses `p` gives. -/
def gatherRefs (s : State) (e : QEntry) (p : Vp) (ad : Addressing) (size : Nat) (write : Bool) : List (Fin 64) → Refs
  | [] => {}
  | i :: is =>
    let rest := gatherRefs s e p ad size write is
    let va := elemAddress ad e p i
    let row := vectorRow s e (rowDraw e.draw i) va
    let rows := if row = walkRow s va then row.toList ++ rest.rows else rest.rows
    match checkRef s e.mode write size row va with
    | .ok pa => { rest with oks := (i.val, pa) :: rest.oks, rows := rows }
    | .fails fs => { rest with faults := fs ++ rest.faults, rows := rows }
    | .refused r => { rest with refusal := some r, rows := rows }

/-- The elements of a mask, in rising order. -/
def elemsOf (m : Quad) : List (Fin 64) := (List.finRange 64).filter fun i => m.getLsbD i

/-- The references of the elements `m`: those checked at issue (R174), or checked now. -/
def moveRefs (s : State) (e : QEntry) (p : Vp) (ad : Addressing) (size : Nat) (write : Bool) (m : Quad) : Refs :=
  match e.checked with
  | some l => { oks := l.filter fun x => m.getLsbD x.1 }
  | none => gatherRefs s e p ad size write (elemsOf m)

/-- Which exception is reported: any of those that apply (R409). -/
def pickFault (n : Nat) : List MmFault → Option MmFault
  | [] => none
  | [f] => some f
  | fs => fs[(miscDraw n 0).toNat % fs.length]?

/-- The vector translation buffer takes in the translations a vector memory instruction used (R94, R112). -/
def loadTb (s : State) (rows : List MapRow) : State :=
  match s.cfg.vectorTb with
  | .shared => s
  | .own => { s with vp := { s.vp with tb := rows.filter (fun r => !s.vp.tb.contains r) ++ s.vp.tb } }

/-! ### The order that VSYNC gives -/

/-- Where one element's access may go: its virtual address and every physical place it may have (R103). -/
structure Spot where
  write : Bool
  va : Nat
  size : Nat
  places : List Nat
  deriving DecidableEq, Repr

/-- The size and addressing of a memory instruction, and whether it writes (R210). -/
def VOp.access : VOp → Option (ElemSize × Addressing × Bool)
  | .load sz ad => some (sz, ad, false)
  | .store sz ad => some (sz, ad, true)
  | _ => none

/-- It is known whether element `i` of a memory instruction is selected, and where it goes. -/
def addressKnown (w : View) (e : QEntry) (ad : Addressing) (i : Nat) : Bool :=
  w.knowsMask e i && (match ad with | .indexed => w.hasElem (fieldB e.cntrl) i | .strided => true)

/-- The spot of element `i` of a memory instruction, where its address is known. -/
def spotOf (s : State) (w : View) (e : QEntry) (i : Fin 64) : Option Spot :=
  match e.op.access with
  | none => none
  | some (sz, ad, write) =>
    if addressKnown w e ad i then
      let va := elemAddress ad e w.p i
      let rows := (walkRow s va).toList ++ staleRows s e va
      let places := match e.checked with
        | some l => (l.filter fun x => decide (x.1 = i.val)).map Prod.snd
        | none => rows.filterMap fun r => placeOf (some r) va
      some ⟨write, va.toNat, sz.bytes, places⟩
    else none

/-- Two accesses may conflict: one is a write and they may touch the same location (R103). -/
def Spot.conflicts (a b : Spot) : Bool :=
  (a.write || b.write) &&
    (overlap a.va a.size b.va b.size || a.places.any fun x => b.places.any fun y => overlap x a.size y b.size)

/-- An open element of an older instruction stands before one of some accesses: they may conflict, or its own address is
not known yet. -/
def standsBefore (s : State) (w : View) (o : QEntry) (l : Fin 64) (spots : List Spot) : Bool :=
  (w.openElems o).getLsbD l &&
    spots.any fun y =>
      match o.op.access, spotOf s w o l with
      | none, _ => false
      | some _, some x => x.conflicts y
      | some a, none => y.write || a.2.2

/-- How many of the oldest instructions stand before the last VSYNC of a list. -/
def beforeVsync (q : List QEntry) : Nat :=
  q.length - ((q.reverse.findIdx? fun e => decide (e.op = .vsync)).getD q.length)

/-- The access of element `i` of entry `k` need not wait for one before a VSYNC (R103, R365). -/
def orderAllows (s : State) (k : Nat) (w : View) (e : QEntry) (i : Fin 64) : Bool :=
  match spotOf s w e i with
  | none => true
  | some y =>
    !((entryViews s).take (beforeVsync (s.vp.queue.take k))).any fun x =>
      x.2.op.isMemory && (List.finRange 64).any fun l => standsBefore s x.1 x.2 l [y]

/-! ### Transfers -/

/-- How many bytes of an element are one access (R86, ELEMENT_ATOMIC). -/
def unitBytes (c : Config) (sz : ElemSize) : Nat :=
  match sz with
  | .long => if c.longAtomic then 4 else 1
  | .quad => if c.quadAtomic then 8 else if c.longAtomic then 4 else 1

/-- The part of each element that a move accesses: its first byte and its length. A part that no element has stands for
the whole element. -/
def span (c : Config) (sz : ElemSize) (part : Option Nat) : Nat × Nat :=
  let u := unitBytes c sz
  match part with
  | some j => if j * u + u ≤ sz.bytes then (j * u, u) else (0, sz.bytes)
  | none => (0, sz.bytes)

/-- What an access of `n` bytes at `pa` read of the byte `b` of an element. -/
def Part.byte (q : Part) (b : Nat) : Option Byte :=
  if q.off ≤ b ∧ b < q.off + q.len then some (q.val.extractLsb' (8 * (b - q.off)) 8) else none

/-- The value of an element put together from the accesses to its parts; none where a byte is missing. -/
def partsValue (ps : List Part) (i : Nat) (size : Nat) : Option Nat :=
  (List.range size).foldr
    (fun b acc => match acc, (ps.filter fun q => decide (q.elem = i)).findSome? (·.byte b) with
      | some v, some x => some (x.toNat + 256 * v)
      | _, _ => none)
    (some 0)

/-- The accesses of a move; `read` gives what an access of some bytes at an address reads. -/
def partsOf (c : Config) (sz : ElemSize) (part : Option Nat) (read : Nat → Nat → Nat) (oks : List (Nat × Nat)) :
    List Part :=
  let sp := span c sz part
  oks.map fun x => ⟨x.1, sp.1, sp.2, x.2 + sp.1, BitVec.ofNat 64 (read (x.2 + sp.1) sp.2)⟩

/-- The elements of a list of accesses, as a mask. -/
def accessMask (oks : List (Nat × Nat)) : Quad := maskOf fun i => oks.any fun x => decide (x.1 = i)

/-- The value a load writes to an element (R215, R216). -/
def loadedValue (sz : ElemSize) (v : Nat) (free : Quad) : Quad :=
  match sz with
  | .long => Quad.mk free.hi (BitVec.ofNat 32 v)
  | .quad => BitVec.ofNat 64 v

/-- Whether the access of element `i` at `pa` depends on an unreported exception (R192, R193, R198). -/
def memoryTainted (ad : Addressing) (write : Bool) (e : QEntry) (p : Vp) (i pa size : Nat) : Bool :=
  (moe e.cntrl && p.taint.vmr.getLsbD i) ||
    (match ad with | .indexed => p.tainted (fieldB e.cntrl) i | .strided => false) ||
    (write && p.tainted (fieldC e.cntrl) i) ||
    p.taint.synced.any fun a => decide (pa ≤ a) && decide (a < pa + size)

/-- The elements among some accesses that depend on an unreported exception. -/
def taintedAccesses (ad : Addressing) (write : Bool) (size : Nat) (e : QEntry) (p : Vp) (oks : List (Nat × Nat)) : Quad :=
  accessMask (oks.filter fun x => memoryTainted ad write e p x.1 x.2 size)

/-- The accesses of a move mark their elements: finished, what they depend on, and no longer as an exception left them. -/
def markAccessed (ad : Addressing) (write : Bool) (size : Nat) (e : QEntry) (p : Vp) (oks : List (Nat × Nat)) : QEntry :=
  { e with
    done := e.done ||| accessMask oks
    spoil := e.spoil &&& ~~~accessMask oks
    tainted := e.tainted ||| taintedAccesses ad write size e p oks }

/-- What a store wrote where it met an exception marks its elements too: not finished, as they are written again when it is
retried (R98, R417), but stored, with what they depend on (R193, R357). -/
def markEarly (c : Config) (sz : ElemSize) (ad : Addressing) (e : QEntry) (p : Vp) (oks : List (Nat × Nat)) : QEntry :=
  { e with
    early := partsOf c sz none (fun _ _ => 0) oks ++ e.early
    tainted := e.tainted ||| taintedAccesses ad true sz.bytes e p oks }

/-- The result of a vector memory move, before the queue is updated. -/
inductive Moved
  /-- the accesses are done -/
  | ok (s : State) (e : QEntry)
  /-- an exception is reported -/
  | failed (f : MmFault) (s : State) (e : QEntry)
  | refused (r : Refusal)

/-- What a load leaves in its elements; a gather whose Vb is Vc leaves all 64 free as soon as it has accessed one (R225, U3;
log entry 55). -/
def loadResults (e : QEntry) (f : Fin 64 → Quad) : Vector Quad 64 :=
  Vector.ofFn fun i => if e.sameRegister then e.result i else f i

/-- A reference of a store lies over the instruction's own operands (R224). -/
def overOperands (size : Nat) (e : QEntry) (oks : List (Nat × Nat)) : Bool :=
  oks.any fun x => e.guards.any fun g => decide (x.2 ≤ g) && decide (g < x.2 + size)

/-- The references of all open elements of a memory instruction are checked at once (R174, R356): they go with the entry,
or an exception is met. A store over its own operands is refused (R224). -/
def examine (sz : ElemSize) (ad : Addressing) (write : Bool) (w : View) (e : QEntry) (s : State) : Moved :=
  let refs := gatherRefs s e w.p ad sz.bytes write (elemsOf (w.openElems e))
  match refs.refusal with
  | some r => .refused r
  | none =>
    if write && overOperands sz.bytes e refs.oks then .refused .storeOverlapsOperands
    else
      match pickFault e.draw refs.faults with
      | some f => .failed f (loadTb s refs.rows) e
      | none => .ok (loadTb s refs.rows) { e with checked := some refs.oks }

/-- VLD and VGATH: the elements `m`, or the same part of each (R215 to R218, R86). -/
def moveLoad (sz : ElemSize) (ad : Addressing) (w : View) (e : QEntry) (m : Quad) (part : Option Nat) (s : State) :
    Moved :=
  let refs := moveRefs s e w.p ad sz.bytes false m
  let s' := loadTb s refs.rows
  match refs.refusal with
  | some r => .refused r
  | none =>
    match pickFault e.draw refs.faults with
    | some f => .failed f s' e
    | none =>
      let whole := decide ((span s.cfg sz part).2 = sz.bytes)
      let ps := if whole then e.parts else partsOf s.cfg sz part s.vectorRead refs.oks ++ e.parts
      let value := fun (i pa : Nat) => if whole then some (s.vectorRead pa sz.bytes) else partsValue ps i sz.bytes
      let fin := refs.oks.filter fun x => (value x.1 x.2).isSome
      .ok s' { markAccessed ad false sz.bytes e w.p fin with
        parts := ps
        res := loadResults e fun i =>
          match fin.find? (fun x => decide (x.1 = i.val)) with
          | some x => loadedValue sz ((value x.1 x.2).getD 0) (elemDraw e.draw i)
          | none => e.res[i] }

/-- The bytes of element `i` at `pa` that another element's access of this instruction overlaps. -/
def sharedBytes (size : Nat) (e : QEntry) (oks : List (Nat × Nat)) (i pa : Nat) : Quad :=
  maskOf fun b =>
    let a := pa + b / 8
    decide (b < 8 * size) &&
      ((oks.any fun x => decide (x.1 ≠ i) && overlap x.2 size a 1) ||
        e.parts.any fun q => decide (q.elem ≠ i) && overlap q.pa q.len a 1)

/-- The value a store writes for element `i`: the register element; a free value in each byte where a nonzero stride
brings two elements to one location (R97, U36). -/
def storedValue (ad : Addressing) (size : Nat) (e : QEntry) (p : Vp) (oks : List (Nat × Nat)) (i : Fin 64) (pa : Nat) :
    Quad :=
  let v := p.elem (fieldC e.cntrl) i
  if ad = .strided ∧ e.scalar.lo ≠ 0 then
    let m := sharedBytes size e oks i pa
    if m = 0 then v else (v &&& ~~~m) ||| (elemDraw e.draw i &&& m)
  else v

/-- A byte at which a higher element has already been stored, so that this one is not: with stride zero and for VSCAT the
highest numbered element becomes the final value (R97). -/
def covered (ad : Addressing) (e : QEntry) (i a : Nat) : Bool :=
  (decide (ad = .indexed) || decide (e.scalar.lo = 0)) &&
    e.parts.any fun q => decide (i < q.elem) && overlap q.pa q.len a 1

/-- The byte `b` of element `i` has been stored: each is written once (R97). -/
def stored (e : QEntry) (i b : Nat) : Bool :=
  e.parts.any fun q => decide (q.elem = i) && decide (q.off ≤ b) && decide (b < q.off + q.len)

/-- A list cut into pieces of `n`. -/
def chunks {α : Type} (n : Nat) : Nat → List α → List (List α)
  | 0, l => [l]
  | k + 1, l => if l.length ≤ n then [l] else l.take n :: chunks n k (l.drop n)

/-- The accesses that store one element, or a part of it, as far as that is still to be done (R219 to R222, R86, R97). -/
def storeUnits (c : Config) (sz : ElemSize) (ad : Addressing) (e : QEntry) (p : Vp) (oks : List (Nat × Nat))
    (part : Option Nat) (x : Nat × Nat) : List (List Host.Cell) :=
  let i : Fin 64 := Fin.ofNat 64 x.1
  let sp := span c sz part
  let v := (storedValue ad sz.bytes e p oks i x.2).toNat / 2 ^ (8 * sp.1)
  ((chunks (unitBytes c sz) 8 (cellsLE (x.2 + sp.1) sp.2 v)).map
    (·.filter fun cell => !covered ad e x.1 cell.1 && !stored e x.1 (cell.1 - x.2))).filter fun u => !u.isEmpty

/-- The elements that a store which meets an exception happens to write: any of those whose own reference passes
(R416, U20). -/
def partlyStored (n : Nat) (oks : List (Nat × Nat)) : List (Nat × Nat) :=
  oks.filter fun x => (choiceDraw n x.1).getLsbD 0

/-- A store writes the elements of a list of references, in rising element order. -/
def storeElems (sz : ElemSize) (ad : Addressing) (e : QEntry) (p : Vp) (part : Option Nat) (oks : List (Nat × Nat))
    (s : State) : State :=
  s.vectorWrite (oks.flatMap (storeUnits s.cfg sz ad e p oks part))

/-- VST and VSCAT: the elements `m`, or the same part of each (R219 to R222, R86). A destination over the instruction's
own operands is refused (R224). -/
def moveStore (sz : ElemSize) (ad : Addressing) (w : View) (e : QEntry) (m : Quad) (part : Option Nat) (s : State) :
    Moved :=
  let refs := moveRefs s e w.p ad sz.bytes true m
  let s' := loadTb s refs.rows
  match refs.refusal with
  | some r => .refused r
  | none =>
    if overOperands sz.bytes e refs.oks then .refused .storeOverlapsOperands
    else
      match pickFault e.draw refs.faults with
      | some f =>
        let early := partlyStored e.draw refs.oks
        .failed f (storeElems sz ad e w.p none early s') (markEarly s.cfg sz ad e w.p early)
      | none =>
        let ps := partsOf s.cfg sz part (fun _ _ => 0) refs.oks ++ e.parts
        let fin := refs.oks.filter fun x => (partsValue ps x.1 sz.bytes).isSome
        .ok (storeElems sz ad e w.p part refs.oks s') { markAccessed ad true sz.bytes e w.p fin with parts := ps }

end Sys2Proof.Machine
end

