-- ==== Sys2Proof/Machine/Perform.lean ====
section
/-! DEFINITION. The vector processor executes queue entries (R53, R179, R180, R187): elements of one entry as far as what
they read is ready, everything that can, what a result depends on; and what happens between two scalar instructions
(log entry 2). -/

namespace Sys2Proof.Machine

/-- What a register-to-register instruction does on elements, on the registers of its view. -/
def effectOf (e : QEntry) (p : Vp) : Effect :=
  match e.op with
  | .intArith op form => intArithEffect op form e p
  | .logical op form => logicalEffect op form e p
  | .shift op form => shiftEffect op form e p
  | .floatArith t op form => floatArithEffect t op form e p
  | .intCompare form => intCompareEffect form e p
  | .floatCompare t form => floatCompareEffect t form e p
  | .convert => convertEffect e p
  | .merge form => mergeEffect form e p
  | .iota => iotaEffect e p
  | .undefine ad =>
    ⟨fun i => decide (ad = .indexed) && p.tainted (fieldB e.cntrl) i, fun i => ⟨spoilDraw e.draw i, 0⟩⟩
  | .load .. | .store .. | .mtvp _ | .vsync => ⟨fun _ => false, fun _ => ⟨0, 0⟩⟩

/-- VCR as IOTA leaves it, once all its mask bits are known (R343). -/
def iotaCount (e : QEntry) (w : View) : Option (BitVec 7) :=
  match e.op with
  | .iota =>
    if (knownPrefix w e).length = e.len.toNat then some (BitVec.ofNat 7 (iotaPositions e w.p).length) else e.count
  | _ => e.count

/-- The elements `m` of a register-to-register instruction are finished: their results, and what these depend on: their
sources, with masks their mask bit, and their own exception (R190, R191, R194). -/
def finishElems (e : QEntry) (w : View) (m : Quad) : QEntry :=
  let f := effectOf e w.p
  { e with
    done := e.done ||| m
    res := Vector.ofFn fun i => if m.getLsbD i then (f.elem i).val else e.res[i]
    tainted := e.tainted ||| maskOf fun i =>
      if h : i < 64 then
        m.getLsbD i && (decide ((f.elem ⟨i, h⟩).types ≠ 0) || f.src i || (moe e.cntrl && w.p.taint.vmr.getLsbD i))
      else false
    count := iotaCount e w }

/-- The destination register that an exception is recorded against: none for a compare (R186, R312). -/
def recordDest (e : QEntry) : Option (BitVec 4) := if e.op.writesMask then none else some (fieldC e.cntrl)

/-- The elements of entry `k` that can execute: not finished, selected by the mask, with everything they read ready
(R187, R190) and no access before a VSYNC to wait for (R103). -/
def runnable (s : State) (k : Nat) (w : View) (e : QEntry) : Quad :=
  maskOf fun i =>
    (w.openElems e).getLsbD i && w.knowsMask e i && sourcesReady w e i && orderAllows s k w e (Fin.ofNat 64 i)

/-- Replace queue entry `k`; the oldest instructions leave the queue if they are complete now. -/
def State.putEntry (s : State) (k : Nat) (e : QEntry) : State :=
  s.setVp { s.vp with queue := s.vp.queue.set k e }.retire

/-- The elements `m` of entry `k`, a register-to-register instruction, execute: every exception is recorded (R185, R186). -/
def operate (k : Nat) (w : View) (e : QEntry) (m : Quad) (s : State) : State :=
  let f := effectOf e w.p
  (s.setVp (s.vp.recordAex (unionTypes (fun i => m.getLsbD i) f.elem) (recordDest e))).putEntry k (finishElems e w m)

/-- The destination of a load that meets an exception holds free values in its active elements (R416, U19); not that of a
gather which still needs it as its source. -/
def spoilDest (w : View) (e : QEntry) (p : Vp) : Vp :=
  match e.op with
  | .load .. =>
    if e.sameRegister then p
    else p.setReg (fieldC e.cntrl) fun i =>
      if e.isActive w.p.vmr i then spoilDraw e.draw i else p.elem (fieldC e.cntrl) i
  | _ => p

/-- Asynchronous recording (R413): PMF and MF are set, the instruction is suspended, VEN is not cleared. Its destination is
free at once if no older instruction is pending that may read it, else when it is given up (log entry 33); until it is
complete every element of it is, that is not loaded again. An exception that is already waiting to be reported stays the one
that is. -/
def suspend (k : Nat) (w : View) (e : QEntry) (f : MmFault) (s : State) : State :=
  let e' := { e with fault := some f, phase := .suspended, draw := s.draws, reload := 0, spoil := allElements }
  let p := if k = 0 then spoilDest w e' s.vp else s.vp
  s.spend.setVp { p with
    vpsr := setBit (setBit p.vpsr 6 true) 5 true
    pendingMm := if p.pmf then p.pendingMm else some f
    queue := p.queue.set k e' }

/-- The elements whose reference met the exception that suspended an instruction, as far as they are still open (R415). -/
def faultingElems (w : View) (e : QEntry) : Quad :=
  match e.fault, e.op.access with
  | some f, some (_, ad, _) => w.openElems e &&& maskOf fun i => decide (elemAddress ad e w.p (Fin.ofNat 64 i) = f.va)
  | _, _ => 0

/-- The faulting reference has been retried without an exception: the instruction goes on as any other (R172, R415). -/
def QEntry.resume (e : QEntry) (w : View) : QEntry :=
  if e.retrying && decide (faultingElems w e = 0) then { e with phase := .resumed } else e

/-- After a vector memory move: the entry is put back with what it has done, or suspended. -/
def settleMove (k : Nat) (w : View) (m : Moved) : Out :=
  match m with
  | .refused r => .refused r
  | .ok s e' => .next (s.putEntry k (e'.resume w))
  | .failed f s e' => .next (suspend k w e' f s)

/-- Execute those elements of `m` of entry `k` that can execute; of a memory instruction, the part `part` of each. -/
def runElems (k : Nat) (m : Quad) (part : Option Nat) (s : State) : Out :=
  match s.vp.queue[k]? with
  | none => .next s
  | some e =>
    let w := viewAt s k e
    let now := runnable s k w e &&& m
    if now = 0 then .next s
    else
      match e.op with
      | .load sz ad => settleMove k w (moveLoad sz ad w e now part s)
      | .store sz ad => settleMove k w (moveStore sz ad w e now part s)
      | _ => .next (operate k w e now s)

/-- Entry `k` does not start: behind something suspended (R413), where what VPSR<RLD> brought back does not
hold up what was issued before (R388); and behind an older instruction whose reference is still to be retried (R172). -/
def heldUp (p : Vp) (k : Nat) (e : QEntry) : Bool :=
  p.queue.zipIdx.any fun x =>
    (x.1.suspended && !(decide (k < x.2) && decide (e.reload < x.1.reload))) ||
      (x.1.retrying && decide (x.2 < k))

/-- Entry `k` can start: nothing holds it up, nor an older one that must start before it (R53). To start, an instruction needs
none of its sources (R413) and makes no access (R100, R107; log entry 2). -/
def mayStart (s : State) (k : Nat) (e : QEntry) : Bool :=
  !heldUp s.vp k e &&
    ((entryViews s).take k).zipIdx.all fun x => x.1.2.started || x.1.1.complete x.1.2 || !heldUp s.vp x.2 x.1.2

/-- The vector processor may execute entry `k` of its own accord: it is not suspended, no hardware error has stopped
execution, and it has started before or can start (R53, R413, R423). -/
def mayRun (s : State) (k : Nat) (e : QEntry) : Bool :=
  !e.suspended && !s.vp.halted && (e.started || mayStart s k e)

/-- A queue of which entry `k` has started, and if it had not before, every older one too (R53). -/
def startQueue (k : Nat) (q : List QEntry) : List QEntry :=
  if (q[k]?).any fun e => !e.started then q.mapIdx fun j e => if j ≤ k then { e with started := true } else e else q

/-- Entry `k` starts, if it has not. -/
def State.startTo (s : State) (k : Nat) : State := s.setVp { s.vp with queue := startQueue k s.vp.queue }

/-- Entry `k` starts and executes, if it may: what can of it, or only the elements `elems`, or of each only one part. -/
def runEntry (k : Nat) (elems : Option Quad) (part : Option Nat) (s : State) : Out :=
  match s.vp.queue[k]? with
  | none => .next s
  | some e => if mayRun s k e then runElems k (elems.getD allElements) part (s.startTo k) else .next s

/-- VPSR<BSY> (R44, R413): some pending instruction can still execute. -/
def busy (s : State) : Bool :=
  (entryViews s).zipIdx.any fun x =>
    mayRun s x.2 x.1.2 && decide (runnable s x.2 x.1.1 x.1.2 ≠ 0)

/-- Execute what can from entry `k` on, oldest first. -/
def drainFrom : Nat → Nat → State → Out
  | 0, _, s => .next s
  | fuel + 1, k, s =>
    andThen (runEntry k none none s) fun t =>
      drainFrom fuel (if t.vp.queue.length < s.vp.queue.length then k else k + 1) t

/-- Execute every pending instruction that can execute, in issue order (R199). -/
def drain (s : State) : Out := drainFrom s.vp.queue.length 0 s

/-! ### What a result depends on -/

/-- What is still needed of the instructions older than some place: elements, mask bits, VCR, and the accesses that a VSYNC
makes later ones wait for (R190 to R198). -/
structure Need where
  v : Vector Quad 16 := Vector.replicate 16 0
  vmr : Quad := 0
  vcr : Bool := false
  /-- the references that are to be retried are needed (R172) -/
  retry : Bool := false
  /-- something is needed of an instruction that has not started: no older reference may still be to be retried (R172) -/
  start : Bool := false
  /-- needed accesses with a VSYNC before them -/
  synced : List Spot := []
  /-- needed accesses with none before them so far -/
  recent : List Spot := []
  deriving DecidableEq, Repr

/-- What somebody waits for: elements of instructions, whatever becomes of their results; results as all of them leave
them; and that it is known whether any memory instruction will meet an exception. -/
structure Goal where
  entry : QEntry → Quad := fun _ => 0
  need : Need := {}
  check : Bool := false

/-- The references of a memory instruction are still to be checked for a goal. -/
def Goal.mustCheck (g : Goal) (w : View) (e : QEntry) : Bool :=
  g.check && e.op.isMemory && e.checked.isNone && decide (w.openElems e ≠ 0)

/-- What must execute of an instruction before anything new does: the references that it is to retry (R172). -/
def retryElems (w : View) (e : QEntry) (n : Need) : Quad :=
  if e.retrying && (n.retry || n.start) then faultingElems w e else 0

/-- The elements of an instruction that are needed and still open. Without chaining, one needed element needs them all; so
does VCR of IOTA, and an element of a gather into its own source that has finished none. -/
def wantedOf (s : State) (w : View) (e : QEntry) (g : Goal) (n : Need) : Quad :=
  let dest := g.entry e |||
    (if e.op.writesReg then n.v[(fieldC e.cntrl).toNat] else 0) |||
    (if e.op.writesMask then n.vmr else 0)
  let all := (decide (e.op = VOp.iota) && n.vcr) || (!s.cfg.chaining && decide (dest &&& e.below ≠ 0)) ||
    (e.sameRegister && decide (e.done = 0) && decide (dest ≠ 0))
  let waits := maskOf fun i => e.op.isMemory && standsBefore s w e (Fin.ofNat 64 i) n.synced
  w.openElems e &&& (if all then allElements else dest ||| waits ||| retryElems w e n)

/-- Add elements of a vector register to what is needed. -/
def Need.addReg (n : Need) (r : BitVec 4) (m : Quad) : Need := { n with v := n.v.set r.toNat (n.v[r.toNat] ||| m) }

/-- Add mask bits to what is needed. -/
def Need.addMask (n : Need) (m : Quad) : Need := { n with vmr := n.vmr ||| m }

/-- Of vector registers, the elements among `m` that are not ready are needed. -/
def Need.addSources (n : Need) (w : View) (rs : List (BitVec 4)) (m : Quad) : Need :=
  rs.foldl (fun n r => n.addReg r (m &&& ~~~w.ready.v[r.toNat])) n

/-- What is needed of older instructions so that the elements `m` of an instruction, whose mask is known, can execute
(R191 to R196). IOTA needs the first mask bit that is unknown, as long as the place of one of the elements is not known. -/
def needSources (s : State) (w : View) (e : QEntry) (m : Quad) (n : Need) : Need :=
  match e.op with
  | .merge f => (elemsOf (m &&& w.ready.vmr)).foldl
      (fun n (i : Fin 64) => n.addSources w (mergeSource e f w.p i) (1#64 <<< i.val)) (n.addMask (m &&& ~~~w.ready.vmr))
  | .iota => if (elemsOf m).all fun j => iotaKnown w e j then n else n.addMask (1#64 <<< (knownPrefix w e).length)
  | .load .. | .store .. =>
    let n := n.addSources w e.sources m
    { n with recent := (elemsOf m).filterMap (spotOf s w e) ++ n.recent }
  | _ => n.addSources w e.sources m

/-- The elements of its destination for which an instruction answers: what older ones write there is not needed. -/
def answersFor (w : View) (e : QEntry) : Quad :=
  let mine := e.done ||| w.openElems e
  if e.replaces then allElements else mine ||| e.kept

/-- What is needed of the instructions before one: no longer what it writes, whatever the elements `wanted` of it read, and
the mask bits that are unknown. -/
def needBefore (s : State) (w : View) (e : QEntry) (wanted : Quad) (n : Need) : Need :=
  let n := match e.op with
    | .mtvp .vcr => { n with vcr := false }
    | .mtvp .vmrlo => { n with vmr := Quad.mk n.vmr.hi 0 }
    | .mtvp .vmrhi => { n with vmr := Quad.mk 0 n.vmr.lo }
    | .mtvp .vlr => n
    | .vsync => { n with synced := n.recent ++ n.synced, recent := [] }
    | _ =>
      let vc := (fieldC e.cntrl).toNat
      let n := if e.op.writesReg then { n with v := n.v.set vc (n.v[vc] &&& ~~~answersFor w e) } else n
      let n := if e.op.writesMask then { n with vmr := n.vmr &&& ~~~answersFor w e } else n
      if e.op = VOp.iota then { n with vcr := false } else n
  let unknown := if moe e.cntrl then wanted &&& ~~~w.ready.vmr else 0
  needSources s w e (wanted &&& ~~~unknown) (n.addMask unknown)

/-- What is needed so that the references of a memory instruction can be checked: its mask, then the offsets of the elements
that it selects (R174, R356). -/
def needAddresses (w : View) (e : QEntry) (n : Need) : Need :=
  let unknown := if moe e.cntrl then w.openElems e &&& ~~~w.ready.vmr else 0
  let n := n.addMask unknown
  match e.op.access with
  | some (_, .indexed, _) => n.addSources w [fieldB e.cntrl] (w.openElems e &&& ~~~unknown)
  | _ => n

/-- The wanted elements of each pending instruction, the youngest first. -/
def wantedFrom (s : State) (g : Goal) : List (View × QEntry) → Need → List Quad
  | [], _ => []
  | x :: xs, n =>
    let m := wantedOf s x.1 x.2 g n
    let check := g.mustCheck x.1 x.2
    let n := { n with start := n.start || (!x.2.started && (check || decide (m ≠ 0))) }
    let n := needBefore s x.1 x.2 m n
    m :: wantedFrom s g xs (if check then needAddresses x.1 x.2 n else n)

/-- The wanted elements of each pending instruction, the oldest first. -/
def wanted (s : State) (g : Goal) : List Quad := (wantedFrom s g (entryViews s).reverse g.need).reverse

/-- The oldest instruction that the vector processor may execute and of which something wanted can. -/
def nextWanted (s : State) (g : Goal) : Option (Nat × Quad) :=
  ((entryViews s).zip (wanted s g)).zipIdx.findSome? fun x =>
    let now := runnable s x.2 x.1.1.1 x.1.1.2 &&& x.1.2
    if mayRun s x.2 x.1.1.2 && decide (now ≠ 0) then some (x.2, now) else none

/-- The oldest memory instruction whose references are to be checked and can be. -/
def nextCheck (s : State) (g : Goal) : Option Nat :=
  (entryViews s).zipIdx.findSome? fun x =>
    let known := match x.1.2.op.access with
      | some (_, ad, _) => (elemsOf (x.1.1.openElems x.1.2)).all fun i => addressKnown x.1.1 x.1.2 ad i
      | none => false
    if g.mustCheck x.1.1 x.1.2 && mayRun s x.2 x.1.2 && known then some x.2 else none

/-- The references of entry `k` are checked before its elements are transferred: they go with the entry, or it is
suspended (R356, R413). -/
def checkEntry (k : Nat) (s : State) : Out :=
  match s.vp.queue[k]? with
  | none => .next s
  | some e =>
    match e.op.access with
    | none => .next s
    | some (sz, ad, write) => settleMove k (viewAt s k e) (examine sz ad write (viewAt s k e) e s)

/-- Something that is waited for cannot execute. -/
def stillWanted (s : State) (g : Goal) : Bool :=
  ((wanted s g).any fun m => decide (m ≠ 0)) || (entryViews s).any fun x => g.mustCheck x.1 x.2

/-- Execute and check what a goal needs, a piece at a time, until nothing of it can or `stop` says so. -/
def pursueFuel (stop : State → Bool) (goal : State → Goal) : Nat → State → Out
  | 0, s => .next s
  | fuel + 1, s =>
    if stop s then .next s
    else
      match nextWanted s (goal s), nextCheck s (goal s) with
      | some (k, m), _ => andThen (runElems k m none (s.startTo k)) (pursueFuel stop goal fuel)
      | none, some k => andThen (checkEntry k (s.startTo k)) (pursueFuel stop goal fuel)
      | none, none => .next s

/-- Wait for what a goal needs (R351, R356, R357, R390). Each piece finishes an element, checks an instruction or suspends
one. -/
def pursue (stop : State → Bool) (goal : State → Goal) (s : State) : Out :=
  pursueFuel stop goal (66 * s.vp.queue.length) s

/-! ### Hardware errors -/

/-- A hardware error is reported through VPSR<IMP>: the vector processor disables itself, and what is pending is
flushed at the next enable (R423, R430). Where IMP is not implemented no flag shows it (log entry 34). -/
def reportImp (c : Config) (p : Vp) : Vp :=
  { (if c.implementsImp then p.setVpsr 24 true else p).setVpsr 0 false with
    hwMem := false, hwOp := false, impUnseen := p.impUnseen || p.hwMem, flushOnEnable := true }

/-- A hardware error has been met and not been reported. -/
def Vp.hwMet (p : Vp) : Bool := p.hwMem || p.hwOp

/-- The elements of the memory instructions, and of the others. -/
def memoryGoal : Goal := { entry := fun e => if e.op.isMemory then allElements else 0 }
def operateGoal : Goal := { entry := fun e => if e.op.isMemory then 0 else allElements }

/-- A hardware error has stopped something that a goal needs and that would execute otherwise (R431, R432). -/
def stoppedFor (g : Goal) (s : State) : Bool :=
  s.vp.halted && (nextWanted (s.setVp { s.vp with halted := false }) g).isSome

/-- Every hardware error met so far is reported (R430): through VPSR<IMP>, or by a machine check taken on `orig`'s
instruction. One report stands for all of them (log entry 34). -/
def reportHardware (s : State) : Out :=
  match s.cfg.hwErrorReport with
  | .machineCheck => takeException .machineCheck (s.setVp { s.vp with hwMem := false, hwOp := false })
  | .imp => .next (s.setVp (reportImp s.cfg s.vp))

/-! ### Between two scalar instructions, and while one waits -/

/-- S_VEN follows VEN (R52). Where it is set, the time of a disabled fault's handler is over (R426). -/
def State.seeVen (s : State) : State :=
  { s with cpu := { s.cpu with venSeen := s.vp.ven, afterDisabled := s.cpu.afterDisabled && !s.vp.ven } }

/-- The clear of AEX, VAER and of what they recorded so far (R373, R378). What a late clear may still show is `vaerOld` and
`aexLate`: it concerns nothing that is recorded later, a DESIGN CHOICE (log entry 52). -/
def clearVaer (p : Vp) : Vp := { p.setVpsr 7 false with vaer := 0, vaerOld := 0 }.forget

/-- What an MTPR to VPSR cleared shows no more (R382); what was recorded after that MTPR stays (log entry 52). -/
def State.clearNow (s : State) : State := s.setVp { s.vp with vaerOld := 0, aexLate := false }

/-- One thing that happens between two scalar instructions (log entry 2). -/
def happen (ev : Event) (s : State) : Out :=
  match ev with
  | .run k elems part => runEntry k elems part s
  | .scalarVisible j =>
    match takeWrite s.cpu.wbuf j with
    | some (u, us) => .next { s with mem := s.mem.writeCells u, cpu := { s.cpu with wbuf := us } }
    | none => .next s
  | .vectorVisible j =>
    match takeWrite s.vp.vbuf j with
    | some (u, us) => .next { s with mem := s.mem.writeCells u, vp := { s.vp with vbuf := us } }
    | none => .next s
  | .visibleAtRead n j =>
    match s.vp.vbuf[j]? with
    | some u => .next { s with races := s.races ++ [(n, u)] }
    | none => .next s
  | .venFollows => .next s.seeVen
  | .venStale => .next { s with cpu := { s.cpu with venSeen := s.cpu.venOld.getD s.cpu.venSeen } }
  | .clearTakesEffect => .next s.clearNow
  | .hardwareError memory stops =>
    .next (s.setVp { s.vp with
      hwMem := s.vp.hwMem || memory
      hwOp := s.vp.hwOp || !memory
      halted := s.vp.halted || stops })
  | .hardwareReport => if s.vp.hwMet then reportHardware s else .next s

/-- The events of a plan, in order. -/
def happenAll : List Event → State → Out
  | [], s => .next s
  | ev :: evs, s => andThen (happen ev s) (happenAll evs)

/-- What can happen while the scalar processor waits: no report of a hardware error, which ends a wait only where it is
blocked (log entry 34), and nothing that concerns only what is issued later. -/
def Event.duringWait : Event → Bool
  | .run .. | .scalarVisible _ | .vectorVisible _ | .hardwareError .. => true
  | .visibleAtRead .. | .venFollows | .venStale | .clearTakesEffect | .hardwareReport => false

/-- An instruction whose issue has cleared MF, and that waits, gives what is retried its time: the next plan of `sched`, so
that accesses of a retried instruction and writes becoming visible come in any order (R107; log entry 2). -/
def whileRetrying (s : State) : Out :=
  if s.vp.queue.any QEntry.retrying then
    match s.sched with
    | [] => .next s
    | p :: ps => happenAll (p.filter Event.duringWait) { s with sched := ps }
  else .next s

/-- What happens before an instruction is fetched (log entry 2): what became visible within the one before is visible (R107),
then comes the next plan of `sched`; where there is none, the
vector processor executes what it can, every write is visible to both processors, a late clear takes effect, hardware errors
are reported, and S_VEN is up to date. -/
def advance (s : State) : Out :=
  let s := s.settleRaces
  match s.sched with
  | [] =>
    andThen (drain s) fun s =>
      let s := s.flushAll.clearNow
      andThen (if s.vp.hwMet then reportHardware s else .next s) fun s => .next s.seeVen
  | p :: ps => happenAll p { s with sched := ps }

/-- After an instruction has been sent: under prompt execution it is executed at once, and what it writes is visible
(log entry 3). -/
def settle (s : State) : Out :=
  if s.sched.isEmpty then andThen (drain s) fun s => .next s.flushVector else .next s

end Sys2Proof.Machine
end

