-- ==== Sys2Proof/Machine/Issue.lean ====
section
/-! DEFINITION. Issue: the scalar processor's decision for every vector instruction (R171 to R175, R434), and the
waiting instruction MFVP (R351 to R357). -/

namespace Sys2Proof.Machine

/-- The operands of what is sent to the vector processor, in stream order (R149). -/
def VOp.accesses : VOp → List Access
  | .intArith _ .vv | .logical _ .vv | .shift _ .vv | .floatArith _ _ .vv | .intCompare .vv | .floatCompare _ .vv
  | .convert | .merge .vv => [.rw]
  | .intArith _ .vs | .logical _ .vs | .shift _ .vs | .intCompare .vs | .iota => [.rw, .rl]
  | .floatArith .f _ .vs | .floatCompare .f .vs => [.rw, .rl]
  | .floatArith .d _ .vs | .floatCompare .d .vs | .floatArith .g _ .vs | .floatCompare .g .vs => [.rw, .rq]
  | .merge .vs => [.rw, .rq]
  | .load _ .strided | .store _ .strided => [.rw, .ab, .rl]
  | .load _ .indexed | .store _ .indexed => [.rw, .ab]
  | .mtvp _ => [.rw, .rl]
  | .vsync => [.rw]
  | .undefine _ => []

/-- The control word bits that should be zero, by format (R141). -/
def zeroBits : VOp → Word
  | .load _ .strided => 0x1FF0
  | .store _ .strided => 0x3FF0
  | .load _ .indexed => 0x1F00
  | .store _ .indexed => 0x3F00
  | .intArith _ .vv | .floatArith _ _ .vv => 0x1000
  | .logical _ .vv | .shift _ .vv => 0x3000
  | .intCompare .vv => 0x3008
  | .floatCompare _ .vv => 0x1008
  | .convert => 0x1000
  | .merge .vv => 0xB000
  | .intArith _ .vs | .floatArith _ _ .vs => 0x1F00
  | .logical _ .vs | .shift _ .vs => 0x3F00
  | .intCompare .vs => 0x3F08
  | .floatCompare _ .vs => 0x1F08
  | .merge .vs => 0xBF00
  | .iota => 0xBFF0
  | .mtvp _ | .vsync | .undefine _ => 0

/-- The scalar operand is a floating datum, so it must not be a short literal (R145). That of VSMERGE is no floating
datum to the processor, whatever the assembler calls the instruction (R342): its literal is zero-extended (log entry 19). -/
def VOp.floatScalar : VOp → Bool
  | .floatArith _ _ .vs | .floatCompare _ .vs => true
  | _ => false

/-- A short literal (R134). -/
def Spec.isLiteral : Spec → Bool
  | .literal _ => true
  | _ => false

/-- An immediate constant (R134). -/
def Spec.isImmediate : Spec → Bool
  | .immediate _ => true
  | _ => false

/-- The second operand specifier satisfies `f`. -/
def secondSpec (f : Spec → Bool) (sps : List Spec) : Bool := ((sps[1]?).map f).getD false

/-- What the spec gives no results for, seen from the instruction alone: should-be-zero fields, reserved functions,
short floating literals, an immediate base, high bits of a VLR or VCR source (R142, R145, R146, R361). -/
def staticStop (op : VOp) (sps : List Spec) (cntrl : Word) (scalar : Quad) : Option Refusal :=
  let reserved3 := decide (compareFn cntrl = 3) || decide (compareFn cntrl = 7)
  let reservedFn := decide (fieldA cntrl = 0) || decide (fieldA cntrl = 11) || decide (fieldA cntrl = 14)
  if op.floatScalar && secondSpec Spec.isLiteral sps then some .shortLiteralFloat
  else if op.isMemory && secondSpec Spec.isImmediate sps then some .immediateBase
  else if decide (cntrl &&& zeroBits op ≠ 0) then some .controlWord
  else
    match op with
    | .intCompare _ | .floatCompare .. => if reserved3 then some .reservedCompare else none
    | .convert => if reservedFn then some .reservedConvert else none
    | .mtvp .vlr | .mtvp .vcr => if scalar.lo.toNat < 128 then none else some .mtvpHighBits
    | _ => none

/-- The pending asynchronous exception, as reported (R414): the one that PMF announces. In no state that a run reaches
is PMF set without one (log entry 33). -/
def pendingFault (s : State) : MmFault :=
  (s.vp.pendingMm.getD ⟨.translationNotValid, 0, 0⟩).asynchronous s.cfg

/-- The memory-management fault for a pending asynchronous exception: PMF is cleared, MF stays (R172, R414). -/
def takePending (s : State) : Out :=
  takeException (.mm (pendingFault s)) (s.setVp { s.vp.setVpsr 6 false with pendingMm := none })

/-- The tests of the issue decision that turn an instruction away (R171, R404, R434): no vector processor, S_VEN
clear, an exception pending; and memory management disabled, which is UNDEFINED (R93). -/
def turnedAway (s : State) : Option Out :=
  if !s.cfg.vpPresent then some (takeException .reservedInstr s)
  else if !s.cpu.venSeen then some (takeDisabled s)
  else if s.cfg.isAsync && s.vp.pmf then some (takePending s)
  else if !s.cpu.mapen then some (.refused .mmDisabled)
  else none

/-- Undo the specifiers' side effects on the registers: at a fault the instruction is as if not begun (R424). -/
def undoOperands (s t : State) : State :=
  { t with cpu := { t.cpu with gpr := s.cpu.gpr, sps := s.cpu.sps } }

/-- MF set: the vector processor clears it, and every suspended instruction is to retry its reference before anything new
executes (R172, R415): when it does, between then and whatever waits for it, is free as for any access (R107). Where a
hardware error has stopped execution MF is cleared as well, and the retry waits with all else: a DESIGN CHOICE (log entry
34). -/
def retrySuspended (s : State) : State :=
  if s.cfg.isAsync && s.vp.mf then
    s.setVp { s.vp.setVpsr 5 false with
      queue := s.vp.queue.map fun e => if e.suspended then { e with phase := .retrying } else e }
  else s

/-- The queue has no room for one more instruction (R173): an instruction takes a place until it starts, or is complete
without having to. -/
def queueFull (s : State) : Bool :=
  match s.cfg.queueDepth with
  | none => false
  | some d => decide (max d 1 ≤ (entryViews s).countP fun x => !x.2.started && !x.1.complete x.2)

/-- The oldest instruction that takes a place in the queue and can start. -/
def nextStart (s : State) : Option Nat :=
  (entryViews s).zipIdx.findSome? fun x =>
    if !x.1.2.started && !x.1.1.complete x.1.2 && mayRun s x.2 x.1.2 then some x.2 else none

/-- The oldest instruction that the vector processor may execute and that can, with what of it can. -/
def nextAble (s : State) : Option (Nat × Quad) :=
  (entryViews s).zipIdx.findSome? fun x =>
    let now := runnable s x.2 x.1.1 x.1.2
    if mayRun s x.2 x.1.2 && decide (now ≠ 0) then some (x.2, now) else none

/-- Wait until the queue is not full (R173): the oldest instruction that has not started does; where none can start, as a
reference is still to be retried, the oldest that can execute goes on, an element at a time. -/
def makeRoomFuel : Nat → State → Out
  | 0, s => .next s
  | fuel + 1, s =>
    if queueFull s then
      match nextStart s, nextAble s with
      | some k, _ => makeRoomFuel fuel (s.startTo k)
      | none, some (k, m) => andThen (runElems k (m &&& -m) none s) (makeRoomFuel fuel)
      | none, none => .next s
    else .next s

/-- Wait until the queue is not full (R173). -/
def makeRoom (s : State) : Out :=
  if queueFull s then andThen (whileRetrying s) fun s => makeRoomFuel (66 * s.vp.queue.length) s else .next s

/-- A wait that cannot end ends in the report of what stands in its way: the asynchronous exception of the suspended
instruction (R414), else the hardware error that stopped the vector processor, by a machine check or, as VEN is clear then,
by the disabled fault (R430; log entry 34). `orig` is the state in which the waiting instruction began. -/
def takeBlocked (orig s : State) : Out :=
  let s := undoOperands orig s
  if s.vp.pmf then takePending s
  else
    match s.cfg.hwErrorReport with
    | .machineCheck => takeException .machineCheck (s.setVp { s.vp with hwMem := false, hwOp := false })
    | .imp =>
      takeDisabled { s with
        vp := if s.vp.hwMet then reportImp s.cfg s.vp else s.vp, cpu := { s.cpu with venSeen := false } }

/-- The queue entry for an instruction: the values its operands have at issue (R201), VLR (R189), the access mode
(R214). -/
def entryOf (op : VOp) (o : Operands) (s : State) : QEntry :=
  let strided := match op with
    | .load _ .strided | .store _ .strided => true
    | _ => false
  let len := if op.usesLength then currentLength s.vp else 0
  { op := op
    cntrl := if op.usesLength then (o.value 0).truncate 16 else 0
    scalar := if strided then o.value 2 else if op.isMemory then 0 else o.value 1
    base := if op.isMemory then (o.value 1).lo else 0
    mode := s.mode
    guards := if op.isMemory then o.guards else []
    len := len
    count := if len = 0 then some 0 else none }

/-- What the spec gives no results for, seen at issue: what the instruction alone shows, and a vector length above 64
(R25). -/
def refusalOf (op : VOp) (sps : List Spec) (e : QEntry) : Option Refusal :=
  match staticStop op sps e.cntrl e.scalar with
  | some r => some r
  | none => if 64 < e.len.toNat then some .lengthAbove64 else none

/-- Send the entry: it joins the queue and the scalar processor goes on (R176). -/
def enqueue (e : QEntry) (next : Long) (s : State) : State :=
  { s with
    vp := { s.vp with queue := s.vp.queue ++ [e] }.retire
    cpu := { s.cpu with pc := next } }

/-- Under prompt execution vector writes are visible at once (log entry 3). -/
def State.prompt (s : State) : State := if s.sched.isEmpty then s.flushVector else s

/-- What the check of a memory instruction's references waits for at issue (R174). -/
def addressGoal (e : QEntry) (s : State) : Goal := { need := needAddresses (viewAll s) e {} }

/-- The store of the synchronous method that is backed up (R412): what it has written it has stored (R193, R357); nothing else
of it is left to be done. -/
def backedUpStore (c : Config) (sz : ElemSize) (ad : Addressing) (w : View) (e : QEntry) (early : List (Nat × Nat)) : QEntry :=
  { markEarly c sz ad e w.p early with len := 0, started := true, checked := some [] }

/-- The effects of a synchronous memory-management exception on the destination (R412, R416): the active elements of a
load's are free values; of a store's, any whose reference passes and whose data is there may have been written. -/
def spoil (sz : ElemSize) (ad : Addressing) (store : Bool) (w : View) (e : QEntry) (oks : List (Nat × Nat)) (s : State) :
    State :=
  if store then
    let now := runnable s s.vp.queue.length w e
    let early := (partlyStored e.draw oks).filter fun x => now.getLsbD x.1
    let s := storeElems sz ad e w.p none early s
    s.setVp { s.vp with queue := s.vp.queue ++ [backedUpStore s.cfg sz ad w e early] }.retire
  else s.setVp { s.vp with queue := s.vp.queue ++ [backedUp w e ad] }.retire

/-- Synchronous method (R174, R412): before anything later is processed, every reference of a memory instruction is
checked, once the instructions that give its mask and its offsets have executed; the others may still be pending. A
failure is taken now, with VAS clear and the PC of the instruction; else the checked addresses go with the entry. -/
def checkAtIssue (sz : ElemSize) (ad : Addressing) (store : Bool) (e : QEntry) (next : Long) (orig s : State) : Out :=
  andThen (pursue (fun _ => false) (addressGoal e) s) fun s =>
    if stillWanted s (addressGoal e s) then takeBlocked orig s
    else
      let w := viewAll s
      let refs := gatherRefs s e w.p ad sz.bytes store (elemsOf (w.openElems e))
      match examine sz ad store w e s with
      | .refused r => .refused r
      | .failed f s' _ => takeException (.mm f) (undoOperands orig (spoil sz ad store w e refs.oks s').prompt)
      | .ok s' e' => settle (enqueue e' next s')

/-- Send an instruction that no test has turned away (R171). -/
def send (e : QEntry) (next : Long) (orig s : State) : Out :=
  if queueFull s then takeBlocked orig s
  else
    let e := { e with draw := s.draws }
    let s := s.spend
    match s.cfg.isAsync, e.op.access with
    | false, some (sz, ad, write) => checkAtIssue sz ad write e next orig s
    | _, _ => settle (enqueue e next s)

/-- Evaluate the operands, then let the rest go on with them (D1: decode comes first). An exception on an operand is
taken on the instruction, whose side effects are undone (R407, R424). -/
def withOperands (header : Nat) (accs : List Access) (sps : List Spec) (s : State) (f : Operands → Out) : Out :=
  match evalOperands header accs sps s with
  | .exception x => takeException x s
  | .refused r => .refused r
  | .ok o => f o

/-- The same for a vector instruction. Without a vector processor no operand is refused: the instruction takes the
reserved-instruction fault (R404). -/
def withVectorOperands (accs : List Access) (sps : List Spec) (s : State) (f : Operands → Out) : Out :=
  match evalOperands 2 accs sps s with
  | .exception x => takeException x s
  | .refused r => if s.cfg.vpPresent then .refused r else takeException .reservedInstr s
  | .ok o => f o

/-- What comes between the tests of R171 and sending: the retry of a suspended reference, and room in the queue. -/
def readyToSend (s : State) : Out := makeRoom (retrySuspended s)

/-- Queue an instruction whose operation is known (R171): the tests of R171 and R434 are passed, then what the spec
refuses, then the retry of a suspended reference, room in the queue, and sending. -/
def issueOp (op : VOp) (sps : List Spec) (o : Operands) (s : State) : Out :=
  let e := entryOf op o s
  match refusalOf op sps e with
  | some r => .refused r
  | none => andThen (readyToSend o.state) (send e o.next s)

/-- ISSUE of an instruction that is queued (R171): operands, the tests of R171 and R434, then the instruction. -/
def issue (op : VOp) (sps : List Spec) (s : State) : Out :=
  withVectorOperands op.accesses sps s fun o =>
    match turnedAway s with
    | some out => out
    | none => issueOp op sps o s

/-- The register that a register number selects in MTVP and MFVP (R350). -/
def ctrlOfRegnum (r : RegNums) (n : Word) : Option CtrlReg :=
  if n = r.vcr then some .vcr
  else if n = r.vlr then some .vlr
  else if n = r.vmrlo then some .vmrlo
  else if n = r.vmrhi then some .vmrhi
  else none

/-- The function that a register number selects in MFVP (R350). -/
def mfvpOfRegnum (r : RegNums) (n : Word) : Option MfvpFn :=
  match ctrlOfRegnum r n with
  | some c => some (.read c)
  | none => if n = r.sync then some .sync else if n = r.msync then some .msync else none

/-- ISSUE of an instruction whose register number operand selects what it does (R350); a value that is not assigned
is refused (R366). -/
def issueByRegnum (accs : List Access) (sel : Word → Option VOp) (sps : List Spec) (s : State) : Out :=
  withVectorOperands accs sps s fun o =>
    match turnedAway s with
    | some out => out
    | none =>
      match sel ((o.value 0).truncate 16) with
      | none => .refused .reservedRegnum
      | some op => issueOp op sps o s

/-- The instruction may raise an arithmetic exception, whatever its operands (R418); it has to execute to show that it does
not. Integer arithmetic does where EXC is set, a conversion from longword never (R323 to R325). -/
def QEntry.mayRaise (e : QEntry) : Bool :=
  match e.op with
  | .intArith .. => exc e.cntrl
  | .floatArith .. | .floatCompare .. => true
  | .convert => decide (3 < (fieldA e.cntrl).toNat)
  | _ => false

/-- What the value depends on that an MFVP delivers, as far as it is still to be produced (R354, R356, R357): for SYNC every
exception, for MSYNC every memory instruction. VLR depends on nothing (R353). -/
def mfvpDepends (fn : MfvpFn) : Goal :=
  match fn with
  | .read .vcr => { need := { vcr := true } }
  | .read .vlr => {}
  | .read .vmrlo => { need := { vmr := 0x00000000FFFFFFFF } }
  | .read .vmrhi => { need := { vmr := 0xFFFFFFFF00000000 } }
  | .sync => { entry := fun e => if e.mayRaise then allElements else 0, check := true }
  | .msync => memoryGoal

/-- What an MFVP waits for (R351, R356, R357): the references that are to be retried before anything new executes (R172), what
its value depends on, and every previous write of the register, or the longword of VMR, that it reads, even one that a later
write supersedes. SYNC waits until it is known that no instruction will
meet an exception: those that may raise one have executed, and of memory instructions every reference is checked. -/
def mfvpGoal (fn : MfvpFn) : Goal :=
  let g := { mfvpDepends fn with need := { (mfvpDepends fn).need with retry := true } }
  match fn with
  | .read .vcr => { g with entry := fun e => if e.op = .iota then allElements else 0 }
  | .read .vmrlo | .read .vmrhi => { g with entry := fun e => if e.op.writesMask then g.need.vmr else 0 }
  | .read .vlr | .sync | .msync => g

/-- SYNC does not wait once an exception is unreported (R356), but for the references to be retried before it (R172). Whether
an exception counts that an MTPR to VPSR has cleared, before an
MFPR from VPSR, is a free choice (R382, U7). -/
def mfvpStops (fn : MfvpFn) (s : State) : Bool :=
  match fn with
  | .sync =>
    !s.vp.queue.any QEntry.retrying &&
      (s.vp.aexPending || s.vp.pmf || (s.vp.aexLate && (miscDraw s.draws 0).getLsbD 0))
  | .read _ | .msync => false

/-- An arithmetic exception must be reported: it occurred in producing what the MFVP's result depends on (R354, R356,
R357). -/
def mustReportArithmetic (fn : MfvpFn) (s : State) : Bool :=
  let t := (viewAll s).p.taint
  match fn with
  | .read .vcr => t.vcr
  | .read .vlr => false
  | .read .vmrlo => decide (t.vmr.lo ≠ 0)
  | .read .vmrhi => decide (t.vmr.hi ≠ 0)
  | .sync => s.vp.aexPending
  | .msync => t.mem

/-- A pending memory-management exception must be reported (R354, R356, R357): something that the result depends on is
behind the suspended instruction. -/
def mustReportMm (fn : MfvpFn) (s : State) : Bool :=
  s.vp.pmf && (decide (fn = .sync) || stillWanted s (mfvpDepends fn))

/-- The longword image of a control register (R24, R26, R352 to R359). -/
def ctrlImage (r : CtrlReg) (p : Vp) : Long :=
  match r with
  | .vcr => p.vcr.zeroExtend 32
  | .vlr => p.vlr.zeroExtend 32
  | .vmrlo => p.vmr.lo
  | .vmrhi => p.vmr.hi

/-- What an MFVP delivers: the register as all earlier instructions leave it, or a free value (R351, U23, U28). -/
def mfvpValue (fn : MfvpFn) (s : State) : Long :=
  match fn with
  | .read r => ctrlImage r (viewAll s).p
  | .sync | .msync => (miscDraw s.draws 1).lo

/-- An MFVP reports an arithmetic exception: one that it must, one that it need not but may (U27, U48), or one that an MTPR to
VPSR has cleared, before an MFPR from VPSR (U7). `may` is the free choice. -/
def reportsArithmetic (fn : MfvpFn) (may : Quad) (s : State) : Bool :=
  mustReportArithmetic fn s || ((s.vp.aexPending || s.vp.aexLate) && may.getLsbD 0)

/-- An MFVP reports the pending memory-management exception: it must, or it need not but may (U27, U48). -/
def reportsMm (fn : MfvpFn) (may : Quad) (s : State) : Bool := mustReportMm fn s || (s.vp.pmf && may.getLsbD 1)

/-- Whether the vector processor is idle when a SYNC or an MSYNC faults is a free choice (U25, U30): then everything pending
has executed that can, and BSY is clear (R44). -/
def idleAtFault (fn : MfvpFn) (may : Quad) (s : State) : Out :=
  match fn with
  | .read _ => .next s
  | .sync | .msync =>
    if (reportsArithmetic fn may s || reportsMm fn may s) && may.getLsbD 2 then drain s.spend else .next s

/-- The end of an MFVP, once what it waits for has run (R354 to R357): the disabled fault for an arithmetic
exception, else the memory-management fault, else the result. MSYNC makes every write visible to both processors (R102). -/
def finishMfvp (fn : MfvpFn) (o : Operands) (orig s : State) : Out :=
  let may := miscDraw s.draws 0
  andThen (idleAtFault fn may s) fun s =>
    if reportsArithmetic fn may s then
      let t := undoOperands orig s.spend
      takeDisabled { t with cpu := { t.cpu with venSeen := false } }
    else if reportsMm fn may s then takePending (undoOperands orig s.spend)
    else if stillWanted s (mfvpGoal fn) then takeBlocked orig s.spend
    else
      let t := match fn with
        | .msync => s.flushAll
        | _ => s.prompt
      .next ((writeDest (o.dest 1) (mfvpValue fn s) t.spend).setPc o.next)

/-- MFVP: issued as any vector instruction, then waited for (R351). -/
def issueMfvp (sel : Word → Option MfvpFn) (sps : List Spec) (s : State) : Out :=
  withVectorOperands [.rw, .wl] sps s fun o =>
    match turnedAway s with
    | some out => out
    | none =>
      match sel ((o.value 0).truncate 16) with
      | none => .refused .reservedRegnum
      | some fn =>
        andThen (readyToSend o.state) fun s' =>
          if queueFull s' then takeBlocked s s'
          else
            andThen (whileRetrying s') fun s' =>
              andThen (pursue (mfvpStops fn) (fun _ => mfvpGoal fn) s') fun s' => finishMfvp fn o s s'

/-- The vector processor receives an illegal vector opcode (R405): it sets IVO, where that is implemented, disables
itself, and nothing else of it changes (log entry 35). -/
def reportIvo (c : Config) (p : Vp) : Vp := (if c.implementsIvo then p.setVpsr 25 true else p).setVpsr 0 false

/-- An illegal vector opcode that is reported through IVO goes through issue, with the operands that the implementation
takes it to have (R405). -/
def execIvo (accs : List Access) (sps : List Spec) (s : State) : Out :=
  withVectorOperands accs sps s fun o =>
    match turnedAway s with
    | some out => out
    | none =>
      andThen (readyToSend o.state) fun s' =>
        if queueFull s' then takeBlocked s s' else .next ((s'.setVp (reportIvo s'.cfg s'.vp)).setPc o.next)

end Sys2Proof.Machine
end

