-- ==== Sys2Proof/Machine/Convert.lean ====
section
/-! DEFINITION. VVCVT and its forms (R320 to R336): one meaning per instruction, each by issue (R171). -/

namespace Sys2Proof.Machine

/-- VVCVT (R320). -/
def execVvcvt (cntrl : Spec) (s : State) : Out :=
  issue (.convert) [cntrl] s

/-- VVCVTLF (R323; a form of VVCVT). -/
def execVvcvtlf (cntrl : Spec) (s : State) : Out :=
  issue (.convert) [cntrl] s

/-- VVCVTLD (R324; a form of VVCVT). -/
def execVvcvtld (cntrl : Spec) (s : State) : Out :=
  issue (.convert) [cntrl] s

/-- VVCVTLG (R325; a form of VVCVT). -/
def execVvcvtlg (cntrl : Spec) (s : State) : Out :=
  issue (.convert) [cntrl] s

/-- VVCVTFL (R326; a form of VVCVT). -/
def execVvcvtfl (cntrl : Spec) (s : State) : Out :=
  issue (.convert) [cntrl] s

/-- VVCVTRFL (R327; a form of VVCVT). -/
def execVvcvtrfl (cntrl : Spec) (s : State) : Out :=
  issue (.convert) [cntrl] s

/-- VVCVTFD (R328; a form of VVCVT). -/
def execVvcvtfd (cntrl : Spec) (s : State) : Out :=
  issue (.convert) [cntrl] s

/-- VVCVTFG (R329; a form of VVCVT). -/
def execVvcvtfg (cntrl : Spec) (s : State) : Out :=
  issue (.convert) [cntrl] s

/-- VVCVTDL (R330; a form of VVCVT). -/
def execVvcvtdl (cntrl : Spec) (s : State) : Out :=
  issue (.convert) [cntrl] s

/-- VVCVTDF (R331; a form of VVCVT). -/
def execVvcvtdf (cntrl : Spec) (s : State) : Out :=
  issue (.convert) [cntrl] s

/-- VVCVTRDL (R332; a form of VVCVT). -/
def execVvcvtrdl (cntrl : Spec) (s : State) : Out :=
  issue (.convert) [cntrl] s

/-- VVCVTGL (R333; a form of VVCVT). -/
def execVvcvtgl (cntrl : Spec) (s : State) : Out :=
  issue (.convert) [cntrl] s

/-- VVCVTGF (R334; a form of VVCVT). -/
def execVvcvtgf (cntrl : Spec) (s : State) : Out :=
  issue (.convert) [cntrl] s

/-- VVCVTRGL (R335; a form of VVCVT). -/
def execVvcvtrgl (cntrl : Spec) (s : State) : Out :=
  issue (.convert) [cntrl] s

end Sys2Proof.Machine
end

