-- ==== Sys2Proof/Machine/Edit.lean ====
section
/-! DEFINITION. VMERGE and IOTA (R340 to R343): one meaning per instruction, each by issue (R171). -/

namespace Sys2Proof.Machine

/-- IOTA (R343). -/
def execIota (cntrl stride : Spec) (s : State) : Out :=
  issue (.iota) [cntrl, stride] s

/-- VVMERGE (R341). -/
def execVvmerge (cntrl : Spec) (s : State) : Out :=
  issue (.merge .vv) [cntrl] s

/-- VSMERGE (R342). -/
def execVsmerge (cntrl src : Spec) (s : State) : Out :=
  issue (.merge .vs) [cntrl, src] s

end Sys2Proof.Machine
end

