-- ==== Sys2Proof/Machine/FloatArith.lean ====
section
/-! DEFINITION. Floating add, subtract, multiply and divide (R279 to R303): one meaning per instruction, each by issue (R171). -/

namespace Sys2Proof.Machine

/-- VVADDG (R284). -/
def execVvaddg (cntrl : Spec) (s : State) : Out :=
  issue (.floatArith .g .add .vv) [cntrl] s

/-- VSADDG (R285). -/
def execVsaddg (cntrl addend : Spec) (s : State) : Out :=
  issue (.floatArith .g .add .vs) [cntrl, addend] s

/-- VVADDF (R280). -/
def execVvaddf (cntrl : Spec) (s : State) : Out :=
  issue (.floatArith .f .add .vv) [cntrl] s

/-- VSADDF (R281). -/
def execVsaddf (cntrl addend : Spec) (s : State) : Out :=
  issue (.floatArith .f .add .vs) [cntrl, addend] s

/-- VVADDD (R282). -/
def execVvaddd (cntrl : Spec) (s : State) : Out :=
  issue (.floatArith .d .add .vv) [cntrl] s

/-- VSADDD (R283). -/
def execVsaddd (cntrl addend : Spec) (s : State) : Out :=
  issue (.floatArith .d .add .vs) [cntrl, addend] s

/-- VVSUBG (R290). -/
def execVvsubg (cntrl : Spec) (s : State) : Out :=
  issue (.floatArith .g .sub .vv) [cntrl] s

/-- VSSUBG (R291). -/
def execVssubg (cntrl min : Spec) (s : State) : Out :=
  issue (.floatArith .g .sub .vs) [cntrl, min] s

/-- VVSUBF (R286). -/
def execVvsubf (cntrl : Spec) (s : State) : Out :=
  issue (.floatArith .f .sub .vv) [cntrl] s

/-- VSSUBF (R287). -/
def execVssubf (cntrl min : Spec) (s : State) : Out :=
  issue (.floatArith .f .sub .vs) [cntrl, min] s

/-- VVSUBD (R288). -/
def execVvsubd (cntrl : Spec) (s : State) : Out :=
  issue (.floatArith .d .sub .vv) [cntrl] s

/-- VSSUBD (R289). -/
def execVssubd (cntrl min : Spec) (s : State) : Out :=
  issue (.floatArith .d .sub .vs) [cntrl, min] s

/-- VVMULG (R296). -/
def execVvmulg (cntrl : Spec) (s : State) : Out :=
  issue (.floatArith .g .mul .vv) [cntrl] s

/-- VSMULG (R297). -/
def execVsmulg (cntrl mulr : Spec) (s : State) : Out :=
  issue (.floatArith .g .mul .vs) [cntrl, mulr] s

/-- VVMULF (R292). -/
def execVvmulf (cntrl : Spec) (s : State) : Out :=
  issue (.floatArith .f .mul .vv) [cntrl] s

/-- VSMULF (R293). -/
def execVsmulf (cntrl mulr : Spec) (s : State) : Out :=
  issue (.floatArith .f .mul .vs) [cntrl, mulr] s

/-- VVMULD (R294). -/
def execVvmuld (cntrl : Spec) (s : State) : Out :=
  issue (.floatArith .d .mul .vv) [cntrl] s

/-- VSMULD (R295). -/
def execVsmuld (cntrl mulr : Spec) (s : State) : Out :=
  issue (.floatArith .d .mul .vs) [cntrl, mulr] s

/-- VVDIVG (R302). -/
def execVvdivg (cntrl : Spec) (s : State) : Out :=
  issue (.floatArith .g .div .vv) [cntrl] s

/-- VSDIVG (R303). -/
def execVsdivg (cntrl divd : Spec) (s : State) : Out :=
  issue (.floatArith .g .div .vs) [cntrl, divd] s

/-- VVDIVF (R298). -/
def execVvdivf (cntrl : Spec) (s : State) : Out :=
  issue (.floatArith .f .div .vv) [cntrl] s

/-- VSDIVF (R299). -/
def execVsdivf (cntrl divd : Spec) (s : State) : Out :=
  issue (.floatArith .f .div .vs) [cntrl, divd] s

/-- VVDIVD (R300). -/
def execVvdivd (cntrl : Spec) (s : State) : Out :=
  issue (.floatArith .d .div .vv) [cntrl] s

/-- VSDIVD (R301). -/
def execVsdivd (cntrl divd : Spec) (s : State) : Out :=
  issue (.floatArith .d .div .vs) [cntrl, divd] s

end Sys2Proof.Machine
end

