-- ==== Sys2Proof/Machine/FloatCompare.lean ====
section
/-! DEFINITION. The floating compares and their forms (R310 to R318, R156): one meaning per instruction, each by issue (R171). -/

namespace Sys2Proof.Machine

/-- VVCMPG (R317). -/
def execVvcmpg (cntrl : Spec) (s : State) : Out :=
  issue (.floatCompare .g .vv) [cntrl] s

/-- VSCMPG (R318). -/
def execVscmpg (cntrl src : Spec) (s : State) : Out :=
  issue (.floatCompare .g .vs) [cntrl, src] s

/-- VVCMPF (R313). -/
def execVvcmpf (cntrl : Spec) (s : State) : Out :=
  issue (.floatCompare .f .vv) [cntrl] s

/-- VSCMPF (R314). -/
def execVscmpf (cntrl src : Spec) (s : State) : Out :=
  issue (.floatCompare .f .vs) [cntrl, src] s

/-- VVCMPD (R315). -/
def execVvcmpd (cntrl : Spec) (s : State) : Out :=
  issue (.floatCompare .d .vv) [cntrl] s

/-- VSCMPD (R316). -/
def execVscmpd (cntrl src : Spec) (s : State) : Out :=
  issue (.floatCompare .d .vs) [cntrl, src] s

/-- VVGTRF (R313; a form of VVCMPF). -/
def execVvgtrf (cntrl : Spec) (s : State) : Out :=
  issue (.floatCompare .f .vv) [cntrl] s

/-- VVEQLF (R313; a form of VVCMPF). -/
def execVveqlf (cntrl : Spec) (s : State) : Out :=
  issue (.floatCompare .f .vv) [cntrl] s

/-- VVLSSF (R313; a form of VVCMPF). -/
def execVvlssf (cntrl : Spec) (s : State) : Out :=
  issue (.floatCompare .f .vv) [cntrl] s

/-- VVLEQF (R313; a form of VVCMPF). -/
def execVvleqf (cntrl : Spec) (s : State) : Out :=
  issue (.floatCompare .f .vv) [cntrl] s

/-- VVNEQF (R313; a form of VVCMPF). -/
def execVvneqf (cntrl : Spec) (s : State) : Out :=
  issue (.floatCompare .f .vv) [cntrl] s

/-- VVGEQF (R313; a form of VVCMPF). -/
def execVvgeqf (cntrl : Spec) (s : State) : Out :=
  issue (.floatCompare .f .vv) [cntrl] s

/-- VSGTRF (R314; a form of VSCMPF). -/
def execVsgtrf (cntrl src : Spec) (s : State) : Out :=
  issue (.floatCompare .f .vs) [cntrl, src] s

/-- VSEQLF (R314; a form of VSCMPF). -/
def execVseqlf (cntrl src : Spec) (s : State) : Out :=
  issue (.floatCompare .f .vs) [cntrl, src] s

/-- VSLSSF (R314; a form of VSCMPF). -/
def execVslssf (cntrl src : Spec) (s : State) : Out :=
  issue (.floatCompare .f .vs) [cntrl, src] s

/-- VSLEQF (R314; a form of VSCMPF). -/
def execVsleqf (cntrl src : Spec) (s : State) : Out :=
  issue (.floatCompare .f .vs) [cntrl, src] s

/-- VSNEQF (R314; a form of VSCMPF). -/
def execVsneqf (cntrl src : Spec) (s : State) : Out :=
  issue (.floatCompare .f .vs) [cntrl, src] s

/-- VSGEQF (R314; a form of VSCMPF). -/
def execVsgeqf (cntrl src : Spec) (s : State) : Out :=
  issue (.floatCompare .f .vs) [cntrl, src] s

/-- VVGTRD (R315; a form of VVCMPD). -/
def execVvgtrd (cntrl : Spec) (s : State) : Out :=
  issue (.floatCompare .d .vv) [cntrl] s

/-- VVEQLD (R315; a form of VVCMPD). -/
def execVveqld (cntrl : Spec) (s : State) : Out :=
  issue (.floatCompare .d .vv) [cntrl] s

/-- VVLSSD (R315; a form of VVCMPD). -/
def execVvlssd (cntrl : Spec) (s : State) : Out :=
  issue (.floatCompare .d .vv) [cntrl] s

/-- VVLEQD (R315; a form of VVCMPD). -/
def execVvleqd (cntrl : Spec) (s : State) : Out :=
  issue (.floatCompare .d .vv) [cntrl] s

/-- VVNEQD (R315; a form of VVCMPD). -/
def execVvneqd (cntrl : Spec) (s : State) : Out :=
  issue (.floatCompare .d .vv) [cntrl] s

/-- VVGEQD (R315; a form of VVCMPD). -/
def execVvgeqd (cntrl : Spec) (s : State) : Out :=
  issue (.floatCompare .d .vv) [cntrl] s

/-- VSGTRD (R316; a form of VSCMPD). -/
def execVsgtrd (cntrl src : Spec) (s : State) : Out :=
  issue (.floatCompare .d .vs) [cntrl, src] s

/-- VSEQLD (R316; a form of VSCMPD). -/
def execVseqld (cntrl src : Spec) (s : State) : Out :=
  issue (.floatCompare .d .vs) [cntrl, src] s

/-- VSLSSD (R316; a form of VSCMPD). -/
def execVslssd (cntrl src : Spec) (s : State) : Out :=
  issue (.floatCompare .d .vs) [cntrl, src] s

/-- VSLEQD (R316; a form of VSCMPD). -/
def execVsleqd (cntrl src : Spec) (s : State) : Out :=
  issue (.floatCompare .d .vs) [cntrl, src] s

/-- VSNEQD (R316; a form of VSCMPD). -/
def execVsneqd (cntrl src : Spec) (s : State) : Out :=
  issue (.floatCompare .d .vs) [cntrl, src] s

/-- VSGEQD (R316; a form of VSCMPD). -/
def execVsgeqd (cntrl src : Spec) (s : State) : Out :=
  issue (.floatCompare .d .vs) [cntrl, src] s

/-- VVGTRG (R317; a form of VVCMPG). -/
def execVvgtrg (cntrl : Spec) (s : State) : Out :=
  issue (.floatCompare .g .vv) [cntrl] s

/-- VVEQLG (R317; a form of VVCMPG). -/
def execVveqlg (cntrl : Spec) (s : State) : Out :=
  issue (.floatCompare .g .vv) [cntrl] s

/-- VVLSSG (R317; a form of VVCMPG). -/
def execVvlssg (cntrl : Spec) (s : State) : Out :=
  issue (.floatCompare .g .vv) [cntrl] s

/-- VVLEQG (R317; a form of VVCMPG). -/
def execVvleqg (cntrl : Spec) (s : State) : Out :=
  issue (.floatCompare .g .vv) [cntrl] s

/-- VVNEQG (R317; a form of VVCMPG). -/
def execVvneqg (cntrl : Spec) (s : State) : Out :=
  issue (.floatCompare .g .vv) [cntrl] s

/-- VVGEQG (R317; a form of VVCMPG). -/
def execVvgeqg (cntrl : Spec) (s : State) : Out :=
  issue (.floatCompare .g .vv) [cntrl] s

/-- VSGTRG (R318; a form of VSCMPG). -/
def execVsgtrg (cntrl src : Spec) (s : State) : Out :=
  issue (.floatCompare .g .vs) [cntrl, src] s

/-- VSEQLG (R318; a form of VSCMPG). -/
def execVseqlg (cntrl src : Spec) (s : State) : Out :=
  issue (.floatCompare .g .vs) [cntrl, src] s

/-- VSLSSG (R318; a form of VSCMPG). -/
def execVslssg (cntrl src : Spec) (s : State) : Out :=
  issue (.floatCompare .g .vs) [cntrl, src] s

/-- VSLEQG (R318; a form of VSCMPG). -/
def execVsleqg (cntrl src : Spec) (s : State) : Out :=
  issue (.floatCompare .g .vs) [cntrl, src] s

/-- VSNEQG (R318; a form of VSCMPG). -/
def execVsneqg (cntrl src : Spec) (s : State) : Out :=
  issue (.floatCompare .g .vs) [cntrl, src] s

/-- VSGEQG (R318; a form of VSCMPG). -/
def execVsgeqg (cntrl src : Spec) (s : State) : Out :=
  issue (.floatCompare .g .vs) [cntrl, src] s

end Sys2Proof.Machine
end

