-- ==== Sys2Proof/Machine/Integer.lean ====
section
/-! DEFINITION. Longword add, subtract and multiply (R230 to R240): one meaning per instruction, each by issue (R171). -/

namespace Sys2Proof.Machine

/-- VVADDL (R231). -/
def execVvaddl (cntrl : Spec) (s : State) : Out :=
  issue (.intArith .add .vv) [cntrl] s

/-- VSADDL (R232). -/
def execVsaddl (cntrl addend : Spec) (s : State) : Out :=
  issue (.intArith .add .vs) [cntrl, addend] s

/-- VVSUBL (R238). -/
def execVvsubl (cntrl : Spec) (s : State) : Out :=
  issue (.intArith .sub .vv) [cntrl] s

/-- VSSUBL (R239). -/
def execVssubl (cntrl min : Spec) (s : State) : Out :=
  issue (.intArith .sub .vs) [cntrl, min] s

/-- VVMULL (R236). -/
def execVvmull (cntrl : Spec) (s : State) : Out :=
  issue (.intArith .mul .vv) [cntrl] s

/-- VSMULL (R237). -/
def execVsmull (cntrl mulr : Spec) (s : State) : Out :=
  issue (.intArith .mul .vs) [cntrl, mulr] s

end Sys2Proof.Machine
end

