-- ==== Sys2Proof/Machine/IntegerCompare.lean ====
section
/-! DEFINITION. The integer compare and its forms (R233 to R235, R156): one meaning per instruction, each by issue (R171). -/

namespace Sys2Proof.Machine

/-- VVCMPL (R234). -/
def execVvcmpl (cntrl : Spec) (s : State) : Out :=
  issue (.intCompare .vv) [cntrl] s

/-- VSCMPL (R235). -/
def execVscmpl (cntrl src : Spec) (s : State) : Out :=
  issue (.intCompare .vs) [cntrl, src] s

/-- VVGTRL (R234; a form of VVCMPL). -/
def execVvgtrl (cntrl : Spec) (s : State) : Out :=
  issue (.intCompare .vv) [cntrl] s

/-- VVEQLL (R234; a form of VVCMPL). -/
def execVveqll (cntrl : Spec) (s : State) : Out :=
  issue (.intCompare .vv) [cntrl] s

/-- VVLSSL (R234; a form of VVCMPL). -/
def execVvlssl (cntrl : Spec) (s : State) : Out :=
  issue (.intCompare .vv) [cntrl] s

/-- VVLEQL (R234; a form of VVCMPL). -/
def execVvleql (cntrl : Spec) (s : State) : Out :=
  issue (.intCompare .vv) [cntrl] s

/-- VVNEQL (R234; a form of VVCMPL). -/
def execVvneql (cntrl : Spec) (s : State) : Out :=
  issue (.intCompare .vv) [cntrl] s

/-- VVGEQL (R234; a form of VVCMPL). -/
def execVvgeql (cntrl : Spec) (s : State) : Out :=
  issue (.intCompare .vv) [cntrl] s

/-- VSGTRL (R235; a form of VSCMPL). -/
def execVsgtrl (cntrl src : Spec) (s : State) : Out :=
  issue (.intCompare .vs) [cntrl, src] s

/-- VSEQLL (R235; a form of VSCMPL). -/
def execVseqll (cntrl src : Spec) (s : State) : Out :=
  issue (.intCompare .vs) [cntrl, src] s

/-- VSLSSL (R235; a form of VSCMPL). -/
def execVslssl (cntrl src : Spec) (s : State) : Out :=
  issue (.intCompare .vs) [cntrl, src] s

/-- VSLEQL (R235; a form of VSCMPL). -/
def execVsleql (cntrl src : Spec) (s : State) : Out :=
  issue (.intCompare .vs) [cntrl, src] s

/-- VSNEQL (R235; a form of VSCMPL). -/
def execVsneql (cntrl src : Spec) (s : State) : Out :=
  issue (.intCompare .vs) [cntrl, src] s

/-- VSGEQL (R235; a form of VSCMPL). -/
def execVsgeql (cntrl src : Spec) (s : State) : Out :=
  issue (.intCompare .vs) [cntrl, src] s

end Sys2Proof.Machine
end

