-- ==== Sys2Proof/Machine/Logical.lean ====
section
/-! DEFINITION. The logical and shift instructions (R250 to R261): one meaning per instruction, each by issue (R171). -/

namespace Sys2Proof.Machine

/-- VVBISL (R251). -/
def execVvbisl (cntrl : Spec) (s : State) : Out :=
  issue (.logical .bis .vv) [cntrl] s

/-- VSBISL (R254). -/
def execVsbisl (cntrl src : Spec) (s : State) : Out :=
  issue (.logical .bis .vs) [cntrl, src] s

/-- VVBICL (R253). -/
def execVvbicl (cntrl : Spec) (s : State) : Out :=
  issue (.logical .bic .vv) [cntrl] s

/-- VSBICL (R256). -/
def execVsbicl (cntrl src : Spec) (s : State) : Out :=
  issue (.logical .bic .vs) [cntrl, src] s

/-- VVSRLL (R258). -/
def execVvsrll (cntrl : Spec) (s : State) : Out :=
  issue (.shift .right .vv) [cntrl] s

/-- VSSRLL (R260). -/
def execVssrll (cntrl cnt : Spec) (s : State) : Out :=
  issue (.shift .right .vs) [cntrl, cnt] s

/-- VVSLLL (R259). -/
def execVvslll (cntrl : Spec) (s : State) : Out :=
  issue (.shift .left .vv) [cntrl] s

/-- VSSLLL (R261). -/
def execVsslll (cntrl cnt : Spec) (s : State) : Out :=
  issue (.shift .left .vs) [cntrl, cnt] s

/-- VVXORL (R252). -/
def execVvxorl (cntrl : Spec) (s : State) : Out :=
  issue (.logical .xor .vv) [cntrl] s

/-- VSXORL (R255). -/
def execVsxorl (cntrl src : Spec) (s : State) : Out :=
  issue (.logical .xor .vs) [cntrl, src] s

end Sys2Proof.Machine
end

