-- ==== Sys2Proof/Machine/MemoryAccess.lean ====
section
/-! DEFINITION. The vector memory access instructions (R210 to R227): one meaning per instruction, each by issue (R171). -/

namespace Sys2Proof.Machine

/-- VLDL (R215). -/
def execVldl (cntrl base stride : Spec) (s : State) : Out :=
  issue (.load .long .strided) [cntrl, base, stride] s

/-- VGATHL (R217). -/
def execVgathl (cntrl base : Spec) (s : State) : Out :=
  issue (.load .long .indexed) [cntrl, base] s

/-- VLDQ (R216). -/
def execVldq (cntrl base stride : Spec) (s : State) : Out :=
  issue (.load .quad .strided) [cntrl, base, stride] s

/-- VGATHQ (R218). -/
def execVgathq (cntrl base : Spec) (s : State) : Out :=
  issue (.load .quad .indexed) [cntrl, base] s

/-- VSTL (R219). -/
def execVstl (cntrl base stride : Spec) (s : State) : Out :=
  issue (.store .long .strided) [cntrl, base, stride] s

/-- VSCATL (R221). -/
def execVscatl (cntrl base : Spec) (s : State) : Out :=
  issue (.store .long .indexed) [cntrl, base] s

/-- VSTQ (R220). -/
def execVstq (cntrl base stride : Spec) (s : State) : Out :=
  issue (.store .quad .strided) [cntrl, base, stride] s

/-- VSCATQ (R222). -/
def execVscatq (cntrl base : Spec) (s : State) : Out :=
  issue (.store .quad .indexed) [cntrl, base] s

end Sys2Proof.Machine
end

