-- ==== Sys2Proof/Machine/Misc.lean ====
section
/-! DEFINITION. MFVP, MTVP and VSYNC and their forms (R350 to R366): one meaning per instruction, each by issue (R171). -/

namespace Sys2Proof.Machine

/-- MFVP: the register number selects the function (R351). -/
def execMfvp (regnum dst : Spec) (s : State) : Out :=
  issueMfvp (mfvpOfRegnum s.cfg.regnum) [regnum, dst] s

/-- VSYNC: the one register number that is assigned (R365). -/
def execVsync (regnum : Spec) (s : State) : Out :=
  issueByRegnum [.rw] (fun n => if n = s.cfg.regnum.vsync then some .vsync else none) [regnum] s

/-- MTVP: the register number selects the register (R360). -/
def execMtvp (regnum src : Spec) (s : State) : Out :=
  issueByRegnum [.rw, .rl] (fun n => (ctrlOfRegnum s.cfg.regnum n).map .mtvp) [regnum, src] s

/-- MFVCR (R352; a form of MFVP). -/
def execMfvcr (regnum dst : Spec) (s : State) : Out :=
  issueMfvp (fun _ => some (.read .vcr)) [regnum, dst] s

/-- MFVLR (R353; a form of MFVP). -/
def execMfvlr (regnum dst : Spec) (s : State) : Out :=
  issueMfvp (fun _ => some (.read .vlr)) [regnum, dst] s

/-- MFVMRLO (R358; a form of MFVP). -/
def execMfvmrlo (regnum dst : Spec) (s : State) : Out :=
  issueMfvp (fun _ => some (.read .vmrlo)) [regnum, dst] s

/-- MFVMRHI (R359; a form of MFVP). -/
def execMfvmrhi (regnum dst : Spec) (s : State) : Out :=
  issueMfvp (fun _ => some (.read .vmrhi)) [regnum, dst] s

/-- SYNC (R356; a form of MFVP). -/
def execSync (regnum dst : Spec) (s : State) : Out :=
  issueMfvp (fun _ => some (.sync)) [regnum, dst] s

/-- MSYNC (R357; a form of MFVP). -/
def execMsync (regnum dst : Spec) (s : State) : Out :=
  issueMfvp (fun _ => some (.msync)) [regnum, dst] s

/-- MTVCR (R361; a form of MTVP). -/
def execMtvcr (regnum src : Spec) (s : State) : Out :=
  issue (.mtvp .vcr) [regnum, src] s

/-- MTVLR (R362; a form of MTVP). -/
def execMtvlr (regnum src : Spec) (s : State) : Out :=
  issue (.mtvp .vlr) [regnum, src] s

/-- MTVMRLO (R363; a form of MTVP). -/
def execMtvmrlo (regnum src : Spec) (s : State) : Out :=
  issue (.mtvp .vmrlo) [regnum, src] s

/-- MTVMRHI (R364; a form of MTVP). -/
def execMtvmrhi (regnum src : Spec) (s : State) : Out :=
  issue (.mtvp .vmrhi) [regnum, src] s

end Sys2Proof.Machine
end

