-- ==== Sys2Proof/Machine/Dispatch.lean ====
section
/-! DEFINITION. The dispatch: one arm per constructor, one meaning per arm. -/

namespace Sys2Proof.Machine

def exec (i : Instr) (s : State) : Host.Outcome State Fault Refusal :=
  match i with
  | .mfvp regnum dst => Sys2Proof.Machine.execMfvp regnum dst s
  | .vldl cntrl base stride => Sys2Proof.Machine.execVldl cntrl base stride s
  | .vgathl cntrl base => Sys2Proof.Machine.execVgathl cntrl base s
  | .vldq cntrl base stride => Sys2Proof.Machine.execVldq cntrl base stride s
  | .vgathq cntrl base => Sys2Proof.Machine.execVgathq cntrl base s
  | .vvaddl cntrl => Sys2Proof.Machine.execVvaddl cntrl s
  | .vsaddl cntrl addend => Sys2Proof.Machine.execVsaddl cntrl addend s
  | .vvaddg cntrl => Sys2Proof.Machine.execVvaddg cntrl s
  | .vsaddg cntrl addend => Sys2Proof.Machine.execVsaddg cntrl addend s
  | .vvaddf cntrl => Sys2Proof.Machine.execVvaddf cntrl s
  | .vsaddf cntrl addend => Sys2Proof.Machine.execVsaddf cntrl addend s
  | .vvaddd cntrl => Sys2Proof.Machine.execVvaddd cntrl s
  | .vsaddd cntrl addend => Sys2Proof.Machine.execVsaddd cntrl addend s
  | .vvsubl cntrl => Sys2Proof.Machine.execVvsubl cntrl s
  | .vssubl cntrl min => Sys2Proof.Machine.execVssubl cntrl min s
  | .vvsubg cntrl => Sys2Proof.Machine.execVvsubg cntrl s
  | .vssubg cntrl min => Sys2Proof.Machine.execVssubg cntrl min s
  | .vvsubf cntrl => Sys2Proof.Machine.execVvsubf cntrl s
  | .vssubf cntrl min => Sys2Proof.Machine.execVssubf cntrl min s
  | .vvsubd cntrl => Sys2Proof.Machine.execVvsubd cntrl s
  | .vssubd cntrl min => Sys2Proof.Machine.execVssubd cntrl min s
  | .vstl cntrl base stride => Sys2Proof.Machine.execVstl cntrl base stride s
  | .vscatl cntrl base => Sys2Proof.Machine.execVscatl cntrl base s
  | .vstq cntrl base stride => Sys2Proof.Machine.execVstq cntrl base stride s
  | .vscatq cntrl base => Sys2Proof.Machine.execVscatq cntrl base s
  | .vvmull cntrl => Sys2Proof.Machine.execVvmull cntrl s
  | .vsmull cntrl mulr => Sys2Proof.Machine.execVsmull cntrl mulr s
  | .vvmulg cntrl => Sys2Proof.Machine.execVvmulg cntrl s
  | .vsmulg cntrl mulr => Sys2Proof.Machine.execVsmulg cntrl mulr s
  | .vvmulf cntrl => Sys2Proof.Machine.execVvmulf cntrl s
  | .vsmulf cntrl mulr => Sys2Proof.Machine.execVsmulf cntrl mulr s
  | .vvmuld cntrl => Sys2Proof.Machine.execVvmuld cntrl s
  | .vsmuld cntrl mulr => Sys2Proof.Machine.execVsmuld cntrl mulr s
  | .vsync regnum => Sys2Proof.Machine.execVsync regnum s
  | .mtvp regnum src => Sys2Proof.Machine.execMtvp regnum src s
  | .vvdivg cntrl => Sys2Proof.Machine.execVvdivg cntrl s
  | .vsdivg cntrl divd => Sys2Proof.Machine.execVsdivg cntrl divd s
  | .vvdivf cntrl => Sys2Proof.Machine.execVvdivf cntrl s
  | .vsdivf cntrl divd => Sys2Proof.Machine.execVsdivf cntrl divd s
  | .vvdivd cntrl => Sys2Proof.Machine.execVvdivd cntrl s
  | .vsdivd cntrl divd => Sys2Proof.Machine.execVsdivd cntrl divd s
  | .vvcmpl cntrl => Sys2Proof.Machine.execVvcmpl cntrl s
  | .vscmpl cntrl src => Sys2Proof.Machine.execVscmpl cntrl src s
  | .vvcmpg cntrl => Sys2Proof.Machine.execVvcmpg cntrl s
  | .vscmpg cntrl src => Sys2Proof.Machine.execVscmpg cntrl src s
  | .vvcmpf cntrl => Sys2Proof.Machine.execVvcmpf cntrl s
  | .vscmpf cntrl src => Sys2Proof.Machine.execVscmpf cntrl src s
  | .vvcmpd cntrl => Sys2Proof.Machine.execVvcmpd cntrl s
  | .vscmpd cntrl src => Sys2Proof.Machine.execVscmpd cntrl src s
  | .vvbisl cntrl => Sys2Proof.Machine.execVvbisl cntrl s
  | .vsbisl cntrl src => Sys2Proof.Machine.execVsbisl cntrl src s
  | .vvbicl cntrl => Sys2Proof.Machine.execVvbicl cntrl s
  | .vsbicl cntrl src => Sys2Proof.Machine.execVsbicl cntrl src s
  | .vvsrll cntrl => Sys2Proof.Machine.execVvsrll cntrl s
  | .vssrll cntrl cnt => Sys2Proof.Machine.execVssrll cntrl cnt s
  | .vvslll cntrl => Sys2Proof.Machine.execVvslll cntrl s
  | .vsslll cntrl cnt => Sys2Proof.Machine.execVsslll cntrl cnt s
  | .vvxorl cntrl => Sys2Proof.Machine.execVvxorl cntrl s
  | .vsxorl cntrl src => Sys2Proof.Machine.execVsxorl cntrl src s
  | .vvcvt cntrl => Sys2Proof.Machine.execVvcvt cntrl s
  | .iota cntrl stride => Sys2Proof.Machine.execIota cntrl stride s
  | .vvmerge cntrl => Sys2Proof.Machine.execVvmerge cntrl s
  | .vsmerge cntrl src => Sys2Proof.Machine.execVsmerge cntrl src s
  | .vvcvtlf cntrl => Sys2Proof.Machine.execVvcvtlf cntrl s
  | .vvcvtld cntrl => Sys2Proof.Machine.execVvcvtld cntrl s
  | .vvcvtlg cntrl => Sys2Proof.Machine.execVvcvtlg cntrl s
  | .vvcvtfl cntrl => Sys2Proof.Machine.execVvcvtfl cntrl s
  | .vvcvtrfl cntrl => Sys2Proof.Machine.execVvcvtrfl cntrl s
  | .vvcvtfd cntrl => Sys2Proof.Machine.execVvcvtfd cntrl s
  | .vvcvtfg cntrl => Sys2Proof.Machine.execVvcvtfg cntrl s
  | .vvcvtdl cntrl => Sys2Proof.Machine.execVvcvtdl cntrl s
  | .vvcvtdf cntrl => Sys2Proof.Machine.execVvcvtdf cntrl s
  | .vvcvtrdl cntrl => Sys2Proof.Machine.execVvcvtrdl cntrl s
  | .vvcvtgl cntrl => Sys2Proof.Machine.execVvcvtgl cntrl s
  | .vvcvtgf cntrl => Sys2Proof.Machine.execVvcvtgf cntrl s
  | .vvcvtrgl cntrl => Sys2Proof.Machine.execVvcvtrgl cntrl s
  | .vvgtrl cntrl => Sys2Proof.Machine.execVvgtrl cntrl s
  | .vveqll cntrl => Sys2Proof.Machine.execVveqll cntrl s
  | .vvlssl cntrl => Sys2Proof.Machine.execVvlssl cntrl s
  | .vvleql cntrl => Sys2Proof.Machine.execVvleql cntrl s
  | .vvneql cntrl => Sys2Proof.Machine.execVvneql cntrl s
  | .vvgeql cntrl => Sys2Proof.Machine.execVvgeql cntrl s
  | .vsgtrl cntrl src => Sys2Proof.Machine.execVsgtrl cntrl src s
  | .vseqll cntrl src => Sys2Proof.Machine.execVseqll cntrl src s
  | .vslssl cntrl src => Sys2Proof.Machine.execVslssl cntrl src s
  | .vsleql cntrl src => Sys2Proof.Machine.execVsleql cntrl src s
  | .vsneql cntrl src => Sys2Proof.Machine.execVsneql cntrl src s
  | .vsgeql cntrl src => Sys2Proof.Machine.execVsgeql cntrl src s
  | .vvgtrf cntrl => Sys2Proof.Machine.execVvgtrf cntrl s
  | .vveqlf cntrl => Sys2Proof.Machine.execVveqlf cntrl s
  | .vvlssf cntrl => Sys2Proof.Machine.execVvlssf cntrl s
  | .vvleqf cntrl => Sys2Proof.Machine.execVvleqf cntrl s
  | .vvneqf cntrl => Sys2Proof.Machine.execVvneqf cntrl s
  | .vvgeqf cntrl => Sys2Proof.Machine.execVvgeqf cntrl s
  | .vsgtrf cntrl src => Sys2Proof.Machine.execVsgtrf cntrl src s
  | .vseqlf cntrl src => Sys2Proof.Machine.execVseqlf cntrl src s
  | .vslssf cntrl src => Sys2Proof.Machine.execVslssf cntrl src s
  | .vsleqf cntrl src => Sys2Proof.Machine.execVsleqf cntrl src s
  | .vsneqf cntrl src => Sys2Proof.Machine.execVsneqf cntrl src s
  | .vsgeqf cntrl src => Sys2Proof.Machine.execVsgeqf cntrl src s
  | .vvgtrd cntrl => Sys2Proof.Machine.execVvgtrd cntrl s
  | .vveqld cntrl => Sys2Proof.Machine.execVveqld cntrl s
  | .vvlssd cntrl => Sys2Proof.Machine.execVvlssd cntrl s
  | .vvleqd cntrl => Sys2Proof.Machine.execVvleqd cntrl s
  | .vvneqd cntrl => Sys2Proof.Machine.execVvneqd cntrl s
  | .vvgeqd cntrl => Sys2Proof.Machine.execVvgeqd cntrl s
  | .vsgtrd cntrl src => Sys2Proof.Machine.execVsgtrd cntrl src s
  | .vseqld cntrl src => Sys2Proof.Machine.execVseqld cntrl src s
  | .vslssd cntrl src => Sys2Proof.Machine.execVslssd cntrl src s
  | .vsleqd cntrl src => Sys2Proof.Machine.execVsleqd cntrl src s
  | .vsneqd cntrl src => Sys2Proof.Machine.execVsneqd cntrl src s
  | .vsgeqd cntrl src => Sys2Proof.Machine.execVsgeqd cntrl src s
  | .vvgtrg cntrl => Sys2Proof.Machine.execVvgtrg cntrl s
  | .vveqlg cntrl => Sys2Proof.Machine.execVveqlg cntrl s
  | .vvlssg cntrl => Sys2Proof.Machine.execVvlssg cntrl s
  | .vvleqg cntrl => Sys2Proof.Machine.execVvleqg cntrl s
  | .vvneqg cntrl => Sys2Proof.Machine.execVvneqg cntrl s
  | .vvgeqg cntrl => Sys2Proof.Machine.execVvgeqg cntrl s
  | .vsgtrg cntrl src => Sys2Proof.Machine.execVsgtrg cntrl src s
  | .vseqlg cntrl src => Sys2Proof.Machine.execVseqlg cntrl src s
  | .vslssg cntrl src => Sys2Proof.Machine.execVslssg cntrl src s
  | .vsleqg cntrl src => Sys2Proof.Machine.execVsleqg cntrl src s
  | .vsneqg cntrl src => Sys2Proof.Machine.execVsneqg cntrl src s
  | .vsgeqg cntrl src => Sys2Proof.Machine.execVsgeqg cntrl src s
  | .mfvcr regnum dst => Sys2Proof.Machine.execMfvcr regnum dst s
  | .mfvlr regnum dst => Sys2Proof.Machine.execMfvlr regnum dst s
  | .mfvmrlo regnum dst => Sys2Proof.Machine.execMfvmrlo regnum dst s
  | .mfvmrhi regnum dst => Sys2Proof.Machine.execMfvmrhi regnum dst s
  | .sync regnum dst => Sys2Proof.Machine.execSync regnum dst s
  | .msync regnum dst => Sys2Proof.Machine.execMsync regnum dst s
  | .mtvcr regnum src => Sys2Proof.Machine.execMtvcr regnum src s
  | .mtvlr regnum src => Sys2Proof.Machine.execMtvlr regnum src s
  | .mtvmrlo regnum src => Sys2Proof.Machine.execMtvmrlo regnum src s
  | .mtvmrhi regnum src => Sys2Proof.Machine.execMtvmrhi regnum src s

end Sys2Proof.Machine
end

