-- ==== Sys2Proof/Machine/Ipr.lean ====
section
/-! DEFINITION. MTPR and MFPR on the vector processor registers and on the scalar registers the vector architecture
names (R370 to R393). -/

namespace Sys2Proof.Machine

/-- A bad access to a vector IPR (R386): the preferred reserved-operand fault, or a refusal. -/
def badAccess (s : State) : Out :=
  match s.cfg.badIprAccess with
  | .rsvdOperandFault => takeException .reservedOperand s
  | .undefined => .refused .badIprAccess

/-- The settings of VPSR<3:0> that Table 10-2 allows (R376). -/
def possibleSetting (v : Long) : Bool := [0, 1, 2, 3, 4, 8, 9].contains (v.toNat % 16)

/-- Every pending instruction is given up (R373, R423). -/
def discardPending (s : State) : Vp := { (entryViews s).foldl (giveUp s.cfg.chaining) s.vp with queue := [] }

/-- AEX, VAER and what they recorded are cleared (R373, R378). Where the vector processor does not run promptly what was
recorded so far may still show in VAER and be reported (R382, U7; log entry 52). -/
def startClear (s : State) : State :=
  (s.setVp (if s.sched.isEmpty then clearVaer s.vp
    else { clearVaer s.vp with
      vaerOld := s.vp.vaer ||| s.vp.vaerOld, aexLate := s.vp.aexPending || s.vp.aexLate })).forgetSaved

/-- VPSR<RST> (R373): VPSR and VAER are cleared, what is suspended or pending is discarded, nothing else changes. A vector
processor that a hardware error stopped goes on (log entry 34). -/
def resetVp (s : State) : State :=
  startClear (s.setVp { discardPending s with
    vpsr := 0
    pendingMm := none
    halted := false
    flushOnEnable := false
    impUnseen := false })

/-- The physical addresses of the state area at VSAR, as the vector processor translates them (R374): by a walk of the page
tables, in kernel mode, without the translation buffer. Whether the restrictions on I/O space and on page tables (R88, R89)
hold for the area too, R374 does not say: STS and RLD are no vector instructions, and the model makes no such check here
(DESIGN CHOICE, log entry 32). -/
def stateArea (s : State) (write : Bool) : Nat → Except MmFault (List Nat)
  | 0 => .ok []
  | n + 1 =>
    match stateArea s write n with
    | .error f => .error f
    | .ok pas =>
      let va := s.vp.vsar + BitVec.ofNat 32 n
      match judge s.cfg (findRow s.pageMap (vectorRegs s) va) 0 write va with
      | .error f => .error f
      | .ok pa => .ok (pas ++ [pa])

/-- An instruction as VPSR<STS> stores it (R55, R56, R374): with the registers it is to read, as far as they are known.
Translations that an invalidated buffer held, and addresses that a SYNC translated, do not go with it (R115), nor does it
leave its destination UNPREDICTABLE (R416) once VPSR<RLD> has brought it back, before it meets an exception again: a DESIGN
CHOICE (log entries 11 and 32). -/
def savedEntry (chaining : Bool) (w : View) (e : QEntry) : QEntry :=
  let old := w.destBefore e ||| e.kept
  { e with
    tb := []
    checked := none
    spoil := 0
    copy := some
      { v := w.p.v
        vmr := w.p.vmr
        taintV := w.p.taint.v
        taintMask := w.p.taint.vmr
        readyV := w.ready.v
        readyMask := w.ready.vmr
        kept := old &&& ~~~w.destReady e chaining old } }

/-- What VPSR<STS> stores of what is pending. -/
def savedQueue (s : State) : List QEntry := (entryViews s).map fun x => savedEntry s.cfg.chaining x.1 x.2

/-- VPSR<STS> (R374): VSAR_STATE_LEN unarchitected bytes are written at VSAR and stand for the suspended state. -/
def storeState (s : State) : Out :=
  match stateArea s true s.cfg.vsarStateLen with
  | .error _ => .refused .stateAreaFault
  | .ok pas =>
    let image := (List.range pas.length).map fun j => (miscDraw s.draws j).extractLsb' 0 8
    let u := pas.zip image
    .next { s with
      vp := { s.vp with
        vbuf := s.vp.vbuf ++ [u]
        storing := if s.sched.isEmpty then s.vp.storing else s.vp.storing ++ [u] }
      saved := ⟨image, savedQueue s, s.vp.pendingMm, s.vp.mf, s.vp.pmf⟩ :: s.saved
      draws := s.draws + 512 + pas.length }.prompt

/-- The number of a reload: above those of all that is pending (R388). -/
def nextReload (q : List QEntry) : Nat := q.foldl (fun n e => max n e.reload) 0 + 1

/-- What VPSR<RLD> brings back of a stored queue, as reload number `k`: each instruction with free values of its own, from
`n` on (R12). -/
def reloadedQueue (k n : Nat) (q : List QEntry) : List QEntry := q.mapIdx fun i e => { e with reload := k, draw := n + 512 * i }

/-- A stored state becomes the vector processor's again, behind what is pending (R375, R388), and PMF and MF with it. Where
PMF was set already it goes on announcing what it announced, and the stored exception is not announced: a DESIGN CHOICE (log
entry 32). -/
def reloadRecord (r : SavedRecord) (s : State) : State :=
  { s.setVp { s.vp with
      queue := s.vp.queue ++ reloadedQueue (nextReload s.vp.queue) s.draws r.queue
      pendingMm := if s.vp.pmf then s.vp.pendingMm else r.pendingMm
      vpsr := setBit (setBit s.vp.vpsr 5 (r.mf || s.vp.mf)) 6 (r.pmf || s.vp.pmf) }.retire with
    draws := s.draws + 512 * r.queue.length }

/-- What a reload from bytes that no VPSR<STS> stored gives: the vector processor determines PMF and MF from them (R375),
and the spec does not say how; both, and the exception that PMF announces, are free values (log entry 32). Of its parameter
only what R411 leaves to such an exception is free: a length violation, VAL and VIO are access control violations. -/
def unknownRecord (c : Config) (n : Nat) : SavedRecord :=
  let bits := miscDraw n 0
  let kind := match (bits.extractLsb' 2 2).toNat with
    | 0 => MmKind.accessViolation
    | 1 => if c.modifyFault then MmKind.modify else MmKind.translationNotValid
    | _ => MmKind.translationNotValid
  let violation := decide (kind = .accessViolation)
  let param := scalarParam c (violation && bits.getLsbD 4) (bits.getLsbD 5) (decide (kind = .modify) || bits.getLsbD 6) |||
    paramBit c.faultBits.valBit (violation && bits.getLsbD 7) |||
    paramBit c.faultBits.vioBit (violation && c.setsVio && bits.getLsbD 8)
  { image := []
    queue := []
    pendingMm := if bits.getLsbD 1 then some ⟨kind, param, (miscDraw n 1).hi⟩ else none
    mf := bits.getLsbD 0
    pmf := bits.getLsbD 1 }

/-- VPSR<RLD> (R375): the state stored at VSAR comes back, and PMF and MF with it. The bytes there tell which it is. -/
def reloadState (s : State) : Out :=
  match stateArea s false s.cfg.vsarStateLen with
  | .error _ => .refused .stateAreaFault
  | .ok pas =>
    match s.saved.find? fun x => decide (x.image = pas.map s.vectorByte) with
    | some r => .next (reloadRecord r s)
    | none => .next (reloadRecord (unknownRecord s.cfg s.draws) s.spend)

/-- Writing one to VPSR<MF> (R377): the suspended references will not be retried; their instructions are given up, and
what PMF announces stays to be reported (log entry 33). What they have loaded under an unreported exception goes on making
MSYNC report that (R357). -/
def clearMf (s : State) : State :=
  if s.vp.mf then
    let loaded := s.vp.queue.any fun e => e.suspended && e.movedTainted
    s.setVp { s.vp.setVpsr 5 false with
      taint := { s.vp.taint with mem := s.vp.taint.mem || loaded }
      queue := (entryViews s).map fun (x : View × QEntry) =>
        if x.2.suspended then abandoned s.cfg.chaining x.1 x.2 else x.2 }.retire
  else s

/-- The write-one-to-clear bits of VPSR (R377 to R379). Clearing AEX clears VAER, and what it reported; clearing PMF
discards the notification. -/
def clearBits (v : Long) (s : State) : State :=
  let s := if v.getLsbD 5 then clearMf s else s
  let s := if v.getLsbD 6 then s.setVp { s.vp.setVpsr 6 false with pendingMm := none } else s
  let s := if v.getLsbD 24 then s.setVp (s.vp.setVpsr 24 false) else s
  let s := if v.getLsbD 25 then s.setVp (s.vp.setVpsr 25 false) else s
  if v.getLsbD 7 then startClear s else s

/-- Writing VPSR<VEN> (R372); an enable after a hardware error finds the queue flushed (R423). That this flush discards what
VPSR<RLD> of the same MTPR has brought back is a DESIGN CHOICE (log entry 34). -/
def writeVen (b : Bool) (s : State) : State :=
  let s := if b && s.vp.flushOnEnable then
    s.setVp { discardPending s with flushOnEnable := false, halted := false } else s
  s.setVp { s.vp.setVpsr 0 b with impUnseen := s.vp.impUnseen && !b }

/-- The RST part of MTPR to VPSR (R373). -/
def vpsrReset (v : Long) (s : State) : Out :=
  if v.getLsbD 1 then (if busy s then .refused .resetWhileBusy else .next (resetVp s)) else .next s

/-- The STS part (R374): ignored under the synchronous method (R34). -/
def vpsrStore (v : Long) (s : State) : Out := if v.getLsbD 2 && s.cfg.isAsync then storeState s else .next s

/-- The RLD part (R375): ignored under the synchronous method (R35). -/
def vpsrReload (v : Long) (s : State) : Out := if v.getLsbD 3 && s.cfg.isAsync then reloadState s else .next s

/-- Writing nonzero to an MBZ field of VPSR, or a setting outside Table 10-2 (R371, R386). -/
def badVpsr (v : Long) : Bool := decide (v &&& 0x7CFFFF10 ≠ 0) || !possibleSetting v

/-- Until the next MFPR from VPSR, S_VEN may still be what it was (R382, U7). -/
def rememberVen (s : State) : State := { s with cpu := { s.cpu with venOld := some s.cpu.venSeen } }

/-- MTPR to VPSR (R371, R392): RST, STS, the write-one-to-clear bits, RLD, VEN, in this order. -/
def mtprVpsr (v : Long) (s : State) : Out :=
  andThen (vpsrReset v s) fun s =>
    andThen (vpsrStore v s) fun s =>
      andThen (vpsrReload v (clearBits v s)) fun s => .next (rememberVen (writeVen (v.getLsbD 0) s))

/-- MTPR to VTBIA (R384): the vector translation buffer is empty. Pending instructions may still use what it held
(R117, R388). -/
def invalidateOwn (p : Vp) : Vp := { p with tb := [], queue := p.queue.map fun e => { e with tb := p.tb ++ e.tb } }

/-- MTPR to TBIA or TBIS (R115): the translations that `stale` names are gone, for pending instructions too. Under the
asynchronous method an instruction whose references a SYNC has checked has to translate them again: a DESIGN CHOICE (log entry
11); under the synchronous method it is guaranteed to complete, and keeps them (R174). -/
def invalidate (async : Bool) (stale : MapRow → Bool) (p : Vp) : Vp :=
  { p with
    tb := p.tb.filter fun r => !stale r
    queue := p.queue.map fun e =>
      { e with tb := e.tb.filter fun r => !stale r, checked := if async then none else e.checked } }

/-- Change the memory-management registers of both processors (R113, R116). That what was issued before and is still pending
translates with the new registers from now on is a DESIGN CHOICE: R113 does not say, and R388 speaks of vector IPRs (log entry
12). -/
def setMmRegs (f : MmRegs → MmRegs) (s : State) : State :=
  { s with cpu := { s.cpu with mm := f s.cpu.mm }, vp := { s.vp with mm := f s.vp.mm } }

/-- MTPR to a scalar register that the vector architecture names (R393): the vector processor's copies and its translation
buffer follow (R113, R115, R116). That SBR, SLR, SPTEP, P0BR, P0LR, P1BR, P1LR and SCBB take all 32 bits of the source with no
check of a field, MAPEN its bit 0 with the others ignored, and that TBIA ignores its source, whatever it is, is PRESUMED: the
spec gives no formats (log entry 12). -/
def mtprScalar (n v : Long) (s : State) : Out :=
  let r := s.cfg.iprs
  let k := n.toNat
  if k = r.p0br then .next (setMmRegs (fun m => { m with p0br := v }) s)
  else if k = r.p0lr then .next (setMmRegs (fun m => { m with p0lr := v }) s)
  else if k = r.p1br then .next (setMmRegs (fun m => { m with p1br := v }) s)
  else if k = r.p1lr then .next (setMmRegs (fun m => { m with p1lr := v }) s)
  else if k = r.sbr then .next (setMmRegs (fun m => { m with sbr := v }) s)
  else if k = r.slr then .next (setMmRegs (fun m => { m with slr := v }) s)
  else if some k = r.sptep then .next (setMmRegs (fun m => { m with sptep := v }) s)
  else if k = r.scbb then .next { s with cpu := { s.cpu with scbb := v } }
  else if k = r.mapen then
    if !v.getLsbD 0 && busy s then .refused .mmDisabledWhileBusy
    else .next { s with cpu := { s.cpu with mapen := v.getLsbD 0 } }
  else if k = r.tbia then .next (s.setVp (invalidate s.cfg.isAsync (fun _ => true) s.vp))
  else if k = r.tbis then
    .next (s.setVp (invalidate s.cfg.isAsync (fun x => decide (x.va ≤ v.toNat) && decide (v.toNat < x.va + x.len)) s.vp))
  else .refused (.scalarIpr n)

/-- The write part of MTPR, on the state `t` with the operands' side effects done; `s` is the state a fault is taken
on (R371, R384 to R391, R393). Without a vector processor MTPR to VPSR has no effect, whatever the source (R387; log entry
49). That the MTPR that R387 makes a no-op sets the condition codes all the same, as R370 says of every MTPR, is a DESIGN CHOICE
(log entry 49): `t` has them set. -/
def mtprWrite (n v : Long) (s t : State) : Out :=
  let c := s.cfg
  match n.toNat with
  | 0x90 => if !c.vpPresent then .next t else if badVpsr v then badAccess s else mtprVpsr v t
  | 0x91 => badAccess s
  | 0x92 => badAccess s
  | 0x93 =>
    if !c.vpPresent || decide (c.vectorTb = .shared) then .next t
    else if !c.hasVtbia || decide (v ≠ 0) then badAccess s
    else .next (t.setVp (invalidateOwn t.vp))
  | 0x94 =>
    if !c.vpPresent || !c.isAsync || decide (v &&& 7 ≠ 0) then badAccess s
    else .next (t.setVp { t.vp with vsar := v })
  | _ => if 0x95 ≤ n.toNat ∧ n.toNat ≤ 0x9F then badAccess s else mtprScalar n v t

/-- The condition codes and the PC after MTPR or MFPR (R370). -/
def finishIpr (v next : Long) (s : State) : State :=
  { s with cpu := { s.cpu with psl := setNZ s.cpu.psl v, pc := next } }

/-- MTPR (R370): kernel mode only. -/
def execMtpr (src procreg : Spec) (s : State) : Out :=
  withOperands 1 [.rl, .rl] [src, procreg] s fun o =>
    if s.mode ≠ 0 then takeException .reservedInstr s
    else
      let v := (o.value 0).lo
      mtprWrite (o.value 1).lo v { s with draws := o.state.draws } (finishIpr v o.next o.state)

/-- Report a hardware error, if `met` says there is one, before an MFPR completes (R431, R432): the next vector
instruction takes the disabled fault then. `orig` is the state a machine check is taken on. R431 and R432 let the machine check
come upon the MFPR or upon the instruction that follows: that it always comes upon the MFPR itself is a DESIGN CHOICE (log
entry 34). -/
def withReport (met : Bool) (orig s : State) (f : State → Out) : Out :=
  if met then
    match s.cfg.hwErrorReport with
    | .machineCheck => reportHardware (undoOperands orig s)
    | .imp => f { s with vp := reportImp s.cfg s.vp, cpu := { s.cpu with venSeen := false, venOld := none } }
  else f s

/-- The end of an MFPR: the destination, the condition codes and the PC. -/
def finishMfpr (v : Long) (o : Operands) (s : State) : Out :=
  .next (finishIpr v o.next (writeDest (o.dest 1) v s))

/-- What earlier MTPRs to VPSR began is complete and visible (R381, R382): the stores of VPSR<STS> too (R374). -/
def completeMtpr (s : State) : State :=
  let s := s.vp.storing.foldl (fun s u => s.completeWrite u) s.clearNow
  s.setVp { s.vp with storing := [] }

/-- MFPR from VPSR (R381): every earlier MTPR to VPSR is in effect and S_VEN is up to date; a hardware error of other
than memory instructions is reported with BSY clear, and so is one of a memory instruction that has stopped others (R432), a
machine check always upon this MFPR itself: a DESIGN CHOICE (log entry
34). Reading AEX with the vector processor seen disabled reports the
arithmetic exceptions (R426). -/
def mfprVpsr (o : Operands) (orig s : State) : Out :=
  let s := completeMtpr s
  withReport ((s.vp.hwOp && !busy s) || (s.vp.hwMem && stoppedFor operateGoal s)) orig s fun s =>
    let v := s.vp.vpsrImage (busy s)
    let s := { s.seeVen with cpu := { s.seeVen.cpu with venOld := none } }
    finishMfpr v o (if s.vp.aex && !s.cpu.venSeen then s.reported else s)

/-- A hardware error of a memory instruction that VPSR<IMP> showed before an MFPR from VMAC disables the next vector
instruction too (R431). -/
def seeImp (s : State) : State :=
  if s.vp.impUnseen then
    { s with vp := { s.vp with impUnseen := false }, cpu := { s.cpu with venSeen := false, venOld := none } }
  else s

/-- MFPR from VMAC (R390, R431): every vector memory instruction has finished or waits for a suspended one, every write
is visible to both processors, hardware errors of memory instructions, and others that have stopped memory instructions, are
reported, a machine check always upon this MFPR itself: a DESIGN CHOICE (log entry
34); the value is free (U8, U29). -/
def mfprVmac (o : Operands) (orig s : State) : Out :=
  andThen (pursue (fun _ => false) (fun _ => memoryGoal) s) fun s =>
    withReport (s.vp.hwMem || (s.vp.hwOp && stoppedFor memoryGoal s)) orig s.flushAll fun s => finishMfpr (miscDraw s.draws 1).lo o (seeImp s).spend

/-- The value of a scalar register that MFPR reads (R393). -/
def scalarIpr (s : State) (n : Long) : Option Long :=
  let r := s.cfg.iprs
  let k := n.toNat
  if k = r.p0br then some s.cpu.mm.p0br
  else if k = r.p0lr then some s.cpu.mm.p0lr
  else if k = r.p1br then some s.cpu.mm.p1br
  else if k = r.p1lr then some s.cpu.mm.p1lr
  else if k = r.sbr then some s.cpu.mm.sbr
  else if k = r.slr then some s.cpu.mm.slr
  else if some k = r.sptep then some s.cpu.mm.sptep
  else if k = r.scbb then some s.cpu.scbb
  else if k = r.mapen then some (if s.cpu.mapen then 1 else 0)
  else none

/-- MFPR from VAER (R383). In the handler of a disabled fault, with BSY clear, it reports what was recorded since that fault
(R426). -/
def mfprVaer (o : Operands) (s : State) : Out :=
  finishMfpr ((s.vp.vaer ||| s.vp.vaerOld) &&& 0xFFFF002F) o (if s.cpu.afterDisabled && !busy s then s.reported else s)

/-- The read part of MFPR, on the state `t` with the operands' side effects done (R381, R383, R385 to R390). -/
def mfprRead (n : Long) (o : Operands) (s t : State) : Out :=
  let c := s.cfg
  match n.toNat with
  | 0x90 => if c.vpPresent then mfprVpsr o s t else finishMfpr 0 o t
  | 0x91 => if c.vpPresent then mfprVaer o t else badAccess s
  | 0x92 => if c.vpPresent then mfprVmac o s t else finishMfpr (miscDraw t.draws 1).lo o t.spend
  | 0x93 => badAccess s
  | 0x94 => if c.vpPresent && c.isAsync then finishMfpr t.vp.vsar o t else badAccess s
  | _ =>
    if 0x95 ≤ n.toNat ∧ n.toNat ≤ 0x9F then badAccess s
    else
      match scalarIpr t n with
      | some v => finishMfpr v o t
      | none => .refused (.scalarIpr n)

/-- MFPR (R370): kernel mode only. -/
def execMfpr (procreg dst : Spec) (s : State) : Out :=
  withOperands 1 [.rl, .wl] [procreg, dst] s fun o =>
    if s.mode ≠ 0 then takeException .reservedInstr s
    else mfprRead (o.value 0).lo o { s with draws := o.state.draws } o.state

end Sys2Proof.Machine
end

