-- ==== Sys2Proof/Machine/Fetch.lean ====
section
/-! DEFINITION. Fetching and decoding the instruction at the PC (R118, R131, R159), and the scalar instructions. -/

namespace Sys2Proof.Machine

/-- The bytes at the PC with their physical addresses, and the exception where fetching stops short. -/
structure Fetched where
  bytes : List Byte
  pas : List Nat
  stop : Option MmFault
  deriving DecidableEq, Repr

/-- Fetch up to `n` bytes as the scalar processor: a read in the current mode (R118). -/
def fetchBytes (s : State) : Nat → Long → Fetched
  | 0, _ => ⟨[], [], none⟩
  | n + 1, va =>
    match scalarTranslate s s.mode false va with
    | .error f => ⟨[], [], some f⟩
    | .ok pa =>
      let rest := fetchBytes s n (va + 1)
      ⟨s.scalarByte pa :: rest.bytes, pa :: rest.pas, rest.stop⟩

/-- One of the first `n` fetched bytes was written by a vector store (R118). A store counts from its access on: the byte that a
pending store is still to write is fetched as it is, a DESIGN CHOICE (R465; log entry 37). -/
def overwritten (s : State) (f : Fetched) (n : Nat) : Bool := (f.pas.take n).any fun a => s.vstores.contains a

/-- What the bytes at the PC come to: a vector instruction, a scalar one, or an outcome at once. -/
inductive FetchResult
  | vector (i : Instr)
  | scalar (i : ScalarInstr)
  | out (o : Out)

/-- How many bytes decoding has looked at when it fails with `e`: the fewest that fail so, and all where they end too
early. `fails` gives the failure of some bytes. -/
def examined (fails : List Byte → Option DecodeError) (e : DecodeError) (bs : List Byte) : Nat :=
  if e = .truncated then bs.length
  else ((List.range bs.length).find? fun n => decide (fails (bs.take n) = some e)).getD bs.length

/-- The specifiers that can be parsed before one that cannot. -/
def parsePrefix : List Access → List Byte → List Spec
  | [], _ => []
  | a :: as, bs =>
    match parseSpec a.size bs with
    | .ok (sp, rest) => sp :: parsePrefix as rest
    | .error _ => []

/-- An undecodable instruction (R404, R407, R5): a translation failure or a reserved addressing mode is taken as an
exception; what is outside the scope is refused, a vector instruction only where there is a vector processor. -/
def decodeFailure (vector : Bool) (s : State) (f : Fetched) (e : DecodeError) : Out :=
  match e with
  | .truncated =>
    match f.stop with
    | some x => takeException (.mm x) s
    | none => takeException .reservedInstr s
  | .reservedMode => takeException .reservedMode s
  | .illegalVectorOpcode _ => takeException .reservedInstr s
  | .scalarOpcode b => .refused (.scalarInstruction b)
  | .indexedImmediate =>
    if vector && !s.cfg.vpPresent then takeException .reservedInstr s else .refused .indexedImmediate

/-- Specifiers are evaluated in stream order (R159): those before the one that cannot be decoded come first, with what
they raise; then the failure. -/
def specifierFailure (f : Fetched) (e : DecodeError) (s : State) : Out :=
  match f.bytes with
  | 0xFD :: op :: bs =>
    let accs := match s.cfg.reportOf op with
      | .ivo accs => (opcodeAccesses op.toNat).getD accs
      | .rsvdInstrFault => (opcodeAccesses op.toNat).getD []
    withVectorOperands accs (parsePrefix accs bs) s fun _ => decodeFailure true s f e
  | 0xDA :: bs => withOperands 1 [.rl, .rl] (parsePrefix [.rl, .rl] bs) s fun _ => decodeFailure false s f e
  | 0xDB :: bs => withOperands 1 [.rl, .wl] (parsePrefix [.rl, .wl] bs) s fun _ => decodeFailure false s f e
  | _ => decodeFailure false s f e

/-- An illegal vector opcode (R150, R405): the reserved-instruction fault, or issue with the operands that the
implementation takes it to have. -/
def execIllegal (op : Byte) (s : State) : Out :=
  match s.cfg.reportOf op with
  | .rsvdInstrFault => takeException .reservedInstr s
  | .ivo accs =>
    let f := fetchBytes s (2 + 9 * accs.length) s.cpu.pc
    let parse := fun bs : List Byte => parseSpecs accs (bs.drop 2)
    match parse f.bytes with
    | .ok (sps, rest) =>
      if overwritten s f (f.bytes.length - rest.length) then .refused .codeOverwritten else execIvo accs sps s
    | .error e =>
      let fails := fun bs => match parse bs with
        | .error e' => some e'
        | .ok _ => none
      if overwritten s f (examined fails e f.bytes) then .refused .codeOverwritten else specifierFailure f e s

/-- Fetch and decode at the PC. An instruction with a byte that a vector store wrote is refused, and so is one that fails
to decode on account of bytes of which one was (R118, D9). -/
def fetchDecode (s : State) : FetchResult :=
  let f := fetchBytes s maxLength s.cpu.pc
  match decode s.cfg.regnum f.bytes with
  | .error e =>
    let fails := fun bs => match decode s.cfg.regnum bs with
      | .error e' => some e'
      | .ok _ => none
    if overwritten s f (examined fails e f.bytes) then .out (.refused .codeOverwritten)
    else
      match e with
      | .illegalVectorOpcode op => .out (execIllegal op s)
      | _ => .out (specifierFailure f e s)
  | .ok (d, len) =>
    if overwritten s f len then .out (.refused .codeOverwritten)
    else
      match d with
      | .vector i => .vector i
      | .scalar i => .scalar i

/-- The scalar instructions of the model (R370, R435). -/
def execScalar (i : ScalarInstr) (s : State) : Out :=
  match i with
  | .mtpr src procreg => execMtpr src procreg s
  | .mfpr procreg dst => execMfpr procreg dst s
  | .rei => execRei s

/-- Store bytes where the next instruction is fetched: at the physical addresses of the PC and what follows, visible
to both processors and not counted as written by a vector store. -/
def storeAtFetch (s : State) (bytes : List Byte) : State :=
  let pas := (fetchBytes s bytes.length s.cpu.pc).pas
  { s with
    mem := s.mem.writeCells (pas.zip bytes)
    cpu := { s.cpu with wbuf := s.cpu.wbuf.map (·.filter fun c => !pas.contains c.1) }
    vp := { s.vp with vbuf := s.vp.vbuf.map (·.filter fun c => !pas.contains c.1) }
    races := s.races.map fun r => (r.1, r.2.filter fun c => !pas.contains c.1)
    vstores := s.vstores.filter fun a => !pas.contains a }

end Sys2Proof.Machine
end

