-- ==== Sys2Proof/Machine/Step.lean ====
section
/-! DEFINITION. One step: what the vector processor does in between, then one instruction of the scalar processor. -/

namespace Sys2Proof.Machine

/-- One step of the machine (R170, R171): `advance`, then fetch, decode and execute. -/
def step (s : State) : Host.Outcome State Fault Refusal :=
  andThen (advance s) fun s =>
    match fetchDecode s with
    | .vector i => exec i s
    | .scalar i => execScalar i s
    | .out o => o

/-- `s` with the instruction whose bits are `w` stored where `step` fetches next: its first `nbits` bits, and zeros up
to the longest instruction (log entry 46). -/
def State.withFetchWord (s : State) (nbits w : Nat) : State :=
  storeAtFetch s (bytesLE maxLength (w % 2 ^ nbits))

end Sys2Proof.Machine
end

