-- ==== Sys2Proof/WellFormed.lean ====
section
/-! DEFINITION. Which terms of the syntax stand for an encoding (R134, R154). -/

namespace Sys2Proof

/-- Autoincrement modes name no register 15: those bytes are the immediate and the absolute mode (R134). -/
def Base.wellFormed : Base → Bool
  | .autoinc n | .autoincDef n => decide (n ≠ 15)
  | _ => true

/-- A constant fits the operand's size (R134). -/
def Spec.wellFormed (a : Access) : Spec → Bool
  | .immediate v => decide (v.toNat < 2 ^ (8 * a.size))
  | .mem b | .indexed _ b => b.wellFormed
  | _ => true

/-- Every specifier fits its operand. -/
def specsWellFormed : List Access → List Spec → Bool
  | [], [] => true
  | a :: as, sp :: sps => sp.wellFormed a && specsWellFormed as sps
  | _, _ => false

/-- The constructor is the one its operands select: a form where they fix one, the core instruction elsewhere
(R154; log entry 24). -/
def Instr.formOk (r : RegNums) (i : Instr) : Bool := decide (i.core.refine r = i)

/-- Well formed under the register numbers `r`: it is what decoding its encoding gives. -/
def Instr.wellFormed (r : RegNums) (i : Instr) : Bool :=
  specsWellFormed i.accesses i.operands && i.formOk r

/-- A scalar instruction's specifiers fit their operands. -/
def ScalarInstr.wellFormed : ScalarInstr → Bool
  | .mtpr src procreg => src.wellFormed .rl && procreg.wellFormed .rl
  | .mfpr procreg dst => procreg.wellFormed .rl && dst.wellFormed .wl
  | .rei => true

end Sys2Proof
end

