-- ==== Sys2Proof/Safety.lean ====
section
/-! DEFINITION. The terms that claims use: when an instruction is not turned away, when nothing is pending, what
states a machine can be in, what stays the same. -/

namespace Sys2Proof.Machine

/-- The premises under which a vector instruction is not turned away at issue (R461, R171): a vector processor that
the scalar processor sees enabled, nothing pending to report or to retry, memory management enabled. -/
def Issuable (s : State) : Prop :=
  s.cfg.vpPresent = true ∧ s.cpu.venSeen = true ∧ s.vp.pmf = false ∧ s.vp.mf = false ∧ s.cpu.mapen = true

/-- Nothing is pending and the vector processor runs promptly (log entry 3), so an instruction's own effect shows in
the state that `exec` answers: no instruction is queued, every vector write is visible, no hardware error has stopped
execution. -/
def Quiet (s : State) : Prop := s.sched = [] ∧ s.vp.queue = [] ∧ s.vp.vbuf = [] ∧ s.vp.halted = false

/-- The control word and the scalar operand have a meaning for the operation (R141, R142, R145, R146). -/
def Acceptable (op : VOp) (sps : List Spec) (o : Operands) (s : State) : Prop :=
  staticStop op sps (entryOf op o s).cntrl (entryOf op o s).scalar = none

/-- The control word among the evaluated operands (R135: always the first). -/
def controlWord (o : Operands) : Word := (o.value 0).truncate 16

/-- The state in which an instruction's operands have been evaluated and the PC is past it. -/
def afterOperands (o : Operands) : State := o.state.setPc o.next

/-- Every byte of memory reads as before, for both processors. -/
def SameMemory (s t : State) : Prop := ∀ a, t.mem.read a = s.mem.read a ∧ t.scalarByte a = s.scalarByte a

/-- Every byte of memory outside `cs` reads as before, for both processors. -/
def SameMemoryExcept (cs : List Nat) (s t : State) : Prop :=
  ∀ a, a ∉ cs → t.mem.read a = s.mem.read a ∧ t.scalarByte a = s.scalarByte a

/-- `t` is `s` but for the vector processor and the counter of free values. -/
def OnlyVp (s t : State) : Prop := t = { s with vp := t.vp, draws := t.draws }

/-- `q` is `p` but for the vector registers, what they depend on, and the record of arithmetic exceptions. -/
def OnlyResults (p q : Vp) : Prop :=
  q = { p with v := q.v, taint := q.taint, vaer := q.vaer, vpsr := q.vpsr, aexPending := q.aexPending }

/-- `q` is `p` but for VMR, what it depends on, and the record of arithmetic exceptions. -/
def OnlyMask (p q : Vp) : Prop :=
  q = { p with vmr := q.vmr, taint := q.taint, vaer := q.vaer, vpsr := q.vpsr, aexPending := q.aexPending }

/-- The states a machine can be in: memory in canonical form, reserved bits of VPSR and VAER zero (R36, R40, R43,
R46), bits of VPSR that are not implemented zero (R41, R42), VSAR quadword aligned (R49); PMF announces an exception that
is held to be reported, in the vector processor and in what VPSR<STS> stored (R413, R414, R374); under the synchronous
method PMF and MF are zero (R37, R38), nothing is suspended, and every pending memory instruction has been checked
(R174). -/
def Legal (s : State) : Prop :=
  s.mem.wf = true ∧
  s.vp.vpsr &&& ~~~0x030000E1 = 0 ∧
  s.vp.vaer &&& 0x0000FFD0 = 0 ∧
  s.vp.vsar &&& 7 = 0 ∧
  (s.cfg.implementsImp = false → s.vp.vpsr.getLsbD 24 = false) ∧
  (s.cfg.implementsIvo = false → s.vp.vpsr.getLsbD 25 = false) ∧
  (s.vp.pmf = true → s.vp.pendingMm.isSome = true) ∧
  (∀ r ∈ s.saved, r.pmf = true → r.pendingMm.isSome = true) ∧
  (s.cfg.isAsync = false →
    s.vp.pmf = false ∧ s.vp.mf = false ∧
      ∀ e ∈ s.vp.queue, e.fault = none ∧ (e.op.isMemory = true → e.checked.isSome = true))

/-- `t` is `s` but for the general registers, the stack pointers and the counter of free values. -/
def RegistersOnly (s t : State) : Prop :=
  t = { s with cpu := { s.cpu with gpr := t.cpu.gpr, sps := t.cpu.sps }, draws := t.draws }

/-- The premises under which the instruction that `op` stands for runs at once: its operands are evaluated (`o`),
nothing turns it away, its control word has a meaning, and VLR is a length (R24). -/
def Runs (op : VOp) (sps : List Spec) (o : Operands) (s : State) : Prop :=
  evalOperands 2 op.accesses sps s = .ok o ∧ Issuable s ∧ Quiet s ∧ Acceptable op sps o s ∧ s.vp.vlr.toNat ≤ 64

/-- Element `k` of the control word's active elements (R181), before the instruction. -/
def Active (s : State) (o : Operands) (k : Fin 64) : Prop :=
  k.val < s.vp.vlr.toNat ∧
    ((controlWord o).getLsbD 15 = false ∨ s.vp.vmr.getLsbD k = (controlWord o).getLsbD 14)

/-- The first operand of element `k`: the Va element, or the scalar operand (R230, R279). -/
def firstValue (form : Form) (s : State) (o : Operands) (k : Fin 64) : Quad :=
  match form with
  | .vv => s.vp.elem (fieldA (controlWord o)) k
  | .vs => o.value 1

/-- The second operand of element `k`: the Vb element. -/
def secondValue (s : State) (o : Operands) (k : Fin 64) : Quad := s.vp.elem (fieldB (controlWord o)) k

/-- The result of element `k`: the Vc element after the instruction. -/
def resultOf (o : Operands) (t : State) (k : Fin 64) : Quad := t.vp.elem (fieldC (controlWord o)) k

/-- Registers other than Vc keep every element; elements of Vc that are not active keep their value (R22). -/
def OtherElementsKeep (s t : State) (o : Operands) : Prop :=
  ∀ r k, r ≠ fieldC (controlWord o) ∨ ¬ Active s o k → t.vp.elem r k = s.vp.elem r k

/-- The record of arithmetic exceptions (R186, R312): each type that some element raised is set in VAER, with the
destination's mask bit where there is one; AEX is set and VEN cleared; where no element raised any, nothing changes. -/
def Recorded (types : Fin 64 → AexSet) (dest : Option (BitVec 4)) (p q : Vp) : Prop :=
  ∃ all : AexSet, (∀ b, all.getLsbD b = true ↔ ∃ k, (types k).getLsbD b = true) ∧
    (all = 0 → q.vaer = p.vaer ∧ q.vpsr = p.vpsr ∧ q.aexPending = p.aexPending) ∧
    (all ≠ 0 →
      q.vaer = p.vaer ||| all.zeroExtend 32 |||
        (match dest with | some n => 1#32 <<< (16 + n.toNat) | none => 0) ∧
      q.vpsr = (p.vpsr ||| 0x80) &&& ~~~1 ∧ q.aexPending = true)

/-- The exact rational a ratio stands for. -/
def Ratio.toRat (r : Ratio) : ℚ := (r.num : ℚ) / (r.den : ℚ)

/-- The relation that a compare function names (R233, R311). -/
def Relation (fn : BitVec 3) (a b : ℚ) : Prop :=
  match fn.toNat with
  | 0 => a > b
  | 1 => a = b
  | 2 => a < b
  | 4 => a ≤ b
  | 5 => a ≠ b
  | 6 => a ≥ b
  | _ => False

/-- The integer part of a rational, toward zero (R322). -/
def truncated (v : ℚ) : ℤ := if 0 ≤ v then ⌊v⌋ else -⌊-v⌋

/-- A rational rounded to an integer in sign magnitude, ties away from zero (R322). -/
def roundedAway (v : ℚ) : ℤ := if 0 ≤ v then ⌊v + 1 / 2⌋ else -⌊-v + 1 / 2⌋

/-- A longword is no result of the exact integer `n` without loss (R240). -/
def Overflows (n : ℤ) : Prop := n < -2 ^ 31 ∨ 2 ^ 31 ≤ n

/-- An element holds the pattern `x` of a format: its low longword for F, the whole element for D and G (R21). -/
def Holds (fmt : FloatFmt) (q x : Quad) : Prop :=
  match fmt with
  | .f => q.lo = x.lo
  | .d => q = x
  | .g => q = x

/-- An element holds the encoded reserved operand of some exception types (R278). -/
def HoldsReserved (q : Quad) (types : AexSet) : Prop :=
  q.extractLsb' 0 16 = 0x8000#16 ||| types.zeroExtend 16

/-- What rounding an exact value into a format leaves in an element, and what it raises (R276, R278). -/
def Rounds (fmt : FloatFmt) (x : Ratio) (exc : Bool) (q : Quad) (types : AexSet) : Prop :=
  match fmt.encode x exc with
  | .ok y => Holds fmt q y ∧ types = 0
  | .error ts => HoldsReserved q ts ∧ types = ts

/-- One element of a floating arithmetic instruction (R276, R278). -/
def FloatOutcome (fmt : FloatFmt) (op : FloatOp) (exc : Bool) (a b q : Quad) (types : AexSet) : Prop :=
  let reserved := fmt.isRsvd a = true ∨ fmt.isRsvd b = true
  let byZero := op = .div ∧ fmt.isZero b = true
  (¬ reserved → ¬ byZero → Rounds fmt (Ratio.op op (fmt.value a) (fmt.value b)) exc q types) ∧
  (reserved → ¬ byZero → HoldsReserved q types ∧ types = 4) ∧
  (¬ reserved → byZero → HoldsReserved q types ∧ types = 2) ∧
  (reserved → byZero → HoldsReserved q types ∧ (types = 2 ∨ types = 4 ∨ types = 6))

/-- A convert to longword (R322): the low 32 bits of the true integer, overflow where EXC enables it. -/
def LongOutcome (n : ℤ) (exc : Bool) (q : Quad) (types : AexSet) : Prop :=
  q.lo = BitVec.ofInt 32 n ∧ (exc = true → Overflows n → types = 32) ∧ (exc = false ∨ ¬ Overflows n → types = 0)

/-- One element of VVCVT, by convert function (R321 to R335). -/
def ConvertOutcome (fn : BitVec 4) (exc : Bool) (x q : Quad) (types : AexSet) : Prop :=
  let toLong (fmt : FloatFmt) (f : ℚ → ℤ) : Prop :=
    (fmt.isRsvd x = true → types = 4) ∧
    (fmt.isRsvd x = false → LongOutcome (f (fmt.value x).toRat) exc q types)
  let toFloat (src dst : FloatFmt) : Prop :=
    (src.isRsvd x = true → HoldsReserved q 4 ∧ types = 4) ∧
    (src.isRsvd x = false → Rounds dst (src.value x) exc q types)
  match fn.toNat with
  | 1 => Rounds .f ⟨x.lo.toInt, 1⟩ false q types
  | 2 => Rounds .d ⟨x.lo.toInt, 1⟩ false q types
  | 3 => Rounds .g ⟨x.lo.toInt, 1⟩ false q types
  | 4 => toLong .f truncated
  | 5 => toLong .f roundedAway
  | 6 => toFloat .f .d
  | 7 => toFloat .f .g
  | 8 => toLong .d truncated
  | 9 => toFloat .d .f
  | 10 => toLong .d roundedAway
  | 12 => toLong .g truncated
  | 13 => toFloat .g .f
  | 15 => toLong .g roundedAway
  | _ => False

/-- Every active element's reference passes the checks (R408), whichever cached translation is used; `pa` gives its
physical address. -/
def References (write : Bool) (sz : ElemSize) (ad : Addressing) (e : QEntry) (s : State) (pa : Fin 64 → Nat) : Prop :=
  ∀ k : Fin 64, e.isActive s.vp.vmr k = true → ∀ pick,
    checkRef s e.mode write sz.bytes (vectorRow s e pick (elemAddress ad e s.vp k)) (elemAddress ad e s.vp k) =
      .ok (pa k)

/-- No arithmetic exception is unreported (R54), nor may one that an MTPR to VPSR has cleared still be reported (R382). -/
def NothingUnreported (s : State) : Prop := s.vp.aexPending = false ∧ s.vp.taint = {} ∧ s.vp.aexLate = false

/-- `q` is `p` but for the vector registers, what they depend on, and the translation buffer. -/
def OnlyLoaded (p q : Vp) : Prop := q = { p with v := q.v, taint := q.taint, tb := q.tb }

/-- A general register other than the PC reads as before (R50). -/
def SameRegister (n : RegNo) (s t : State) : Prop := t.cpu.readReg n 0 = s.cpu.readReg n 0

/-- Operand `k` is the datum of its size at address `a`: the value is read there, as the scalar processor sees it at that
read, the state becomes `t`, and the bytes read are added to `guards` (R134, R107). -/
def Reads (k : Nat) (acc : Access) (sp : Spec) (cursor : Long) (s t : State) (a : Long) (guards : List Nat) : Prop :=
  ∀ pas, scalarTranslateBytes s s.mode false a acc.size = .ok pas →
    evalSpec k acc [] sp cursor s =
      .ok ⟨.value (BitVec.ofNat 64 ((s.seenAt (2 * k + 1)).scalarRead pas)), t, guards ++ pas⟩

/-- Nothing of a queue can leave it: it is empty, or its oldest instruction has an active element that it has not
finished and will execute. -/
def Waits (p : Vp) (q : List QEntry) : Prop :=
  q = [] ∨ ∃ e rest, q = e :: rest ∧ ∃ k : Fin 64,
    e.isActive (e.sees p).vmr k = true ∧ e.done.getLsbD k = false ∧ e.left.getLsbD k = false

/-- The control word bits that should be zero, by the fourteen formats of R141. -/
def ShouldBeZero (op : VOp) (c : Word) : Prop :=
  match op with
  | .load _ .strided => c.extractLsb' 4 9 ≠ 0
  | .store _ .strided => c.extractLsb' 4 10 ≠ 0
  | .load _ .indexed => c.extractLsb' 8 5 ≠ 0
  | .store _ .indexed => c.extractLsb' 8 6 ≠ 0
  | .intArith _ .vv | .floatArith _ _ .vv | .convert => c.getLsbD 12 = true
  | .logical _ .vv | .shift _ .vv => c.extractLsb' 12 2 ≠ 0
  | .intCompare .vv => c.getLsbD 3 = true ∨ c.extractLsb' 12 2 ≠ 0
  | .floatCompare _ .vv => c.getLsbD 3 = true ∨ c.getLsbD 12 = true
  | .merge .vv => c.extractLsb' 12 2 ≠ 0 ∨ c.getLsbD 15 = true
  | .intArith _ .vs | .floatArith _ _ .vs => c.extractLsb' 8 5 ≠ 0
  | .logical _ .vs | .shift _ .vs => c.extractLsb' 8 6 ≠ 0
  | .intCompare .vs => c.getLsbD 3 = true ∨ c.extractLsb' 8 6 ≠ 0
  | .floatCompare _ .vs => c.getLsbD 3 = true ∨ c.extractLsb' 8 5 ≠ 0
  | .merge .vs => c.extractLsb' 8 6 ≠ 0 ∨ c.getLsbD 15 = true
  | .iota => c.extractLsb' 4 10 ≠ 0 ∨ c.getLsbD 15 = true
  | .mtvp _ | .vsync | .undefine _ => False

/-- What of a control-word instruction the spec gives no results for: a bit that should be zero (R142), compare function 3
or 7 (R233, R311), convert function 0, 11 or 14 (R336), a short literal as floating scalar operand (R145), an immediate base
(R146). -/
def Meaningless (op : VOp) (sps : List Spec) (c : Word) : Prop :=
  ShouldBeZero op c ∨
  (op.writesMask = true ∧ c.toNat % 8 ∈ [3, 7]) ∨
  (op = .convert ∧ c.toNat / 2 ^ 8 % 16 ∈ [0, 11, 14]) ∨
  ((∃ t op', op = .floatArith t op' .vs ∨ op = .floatCompare t .vs) ∧ ∃ v, sps[1]? = some (.literal v)) ∨
  (op.isMemory = true ∧ ∃ v, sps[1]? = some (.immediate v))

/-- Element `k` raises an arithmetic exception: integer overflow where EXC enables it (R240), what the floating operation
or the conversion raises (R276, R322), a reserved operand in a compare (R310). -/
def Raises (op : VOp) (s : State) (o : Operands) (k : Fin 64) : Prop :=
  let c := controlWord o
  let b := secondValue s o k
  match op with
  | .intArith io form =>
    let x := (firstValue form s o k).lo.toInt
    let y := b.lo.toInt
    exc c = true ∧ Overflows (match io with | .add => x + y | .sub => x - y | .mul => x * y)
  | .floatArith fmt fo form =>
    ∃ q types, FloatOutcome fmt fo (exc c) (firstValue form s o k) b q types ∧ types ≠ 0
  | .floatCompare fmt form => fmt.isRsvd (firstValue form s o k) = true ∨ fmt.isRsvd b = true
  | .convert => ∃ q types, ConvertOutcome (fieldA c) (exc c) b q types ∧ types ≠ 0
  | _ => False

/-- What element `k` reads was produced under an unreported exception: an element of Vb, or of Va in the vector-vector form
(R191); for VMERGE its mask bit or the operand that the bit selects (R195); for IOTA one of the mask bits up to the position
that element `k` stands for (R196). -/
def SourcesDepend (op : VOp) (s : State) (o : Operands) (k : Fin 64) : Prop :=
  let c := controlWord o
  let va := s.vp.tainted (fieldA c) k = true
  let vb := s.vp.tainted (fieldB c) k = true
  match op with
  | .intArith _ form | .logical _ form | .shift _ form | .floatArith _ _ form | .intCompare form
  | .floatCompare _ form => vb ∨ (form = .vv ∧ va)
  | .convert => vb
  | .merge form =>
    s.vp.taint.vmr.getLsbD k = true ∨
      (if s.vp.vmr.getLsbD k = c.getLsbD 14 then form = .vv ∧ va else vb)
  | .iota =>
    ∃ i, i < s.vp.vlr.toNat ∧ (s.vp.vmr.getLsbD i == c.getLsbD 14) = true ∧
      k.val = ((List.range i).filter fun j => s.vp.vmr.getLsbD j == c.getLsbD 14).length ∧
      ∃ j, j ≤ i ∧ s.vp.taint.vmr.getLsbD j = true
  | _ => False

/-- Change the queue entry of a move's result. -/
def Moved.mapEntry (f : QEntry → QEntry) : Moved → Moved
  | .ok s e => .ok s (f e)
  | .failed x s e => .failed x s (f e)
  | .refused r => .refused r

/-- A step that neither stops with a fault nor is refused. -/
def goesOn (o : Out) : Bool :=
  match o with
  | .next _ => true
  | _ => false

end Sys2Proof.Machine
end

