-- ==== Sys2Proof/Families.lean ====
section
/-! DEFINITION. The instructions by family, with what each stands for: the lists that claims quantify over. -/

namespace Sys2Proof.Machine

/-- VADDL, VSUBL, VMULL (R231, R232, R236 to R239). -/
def integerForms (c x : Spec) : List (Instr × IntOp × Form × List Spec) :=
  [(.vvaddl c, .add, .vv, [c]), (.vsaddl c x, .add, .vs, [c, x]),
   (.vvsubl c, .sub, .vv, [c]), (.vssubl c x, .sub, .vs, [c, x]),
   (.vvmull c, .mul, .vv, [c]), (.vsmull c x, .mul, .vs, [c, x])]

/-- VBIS, VXOR, VBIC (R251 to R256). -/
def logicalForms (c x : Spec) : List (Instr × LogicOp × Form × List Spec) :=
  [(.vvbisl c, .bis, .vv, [c]), (.vsbisl c x, .bis, .vs, [c, x]),
   (.vvbicl c, .bic, .vv, [c]), (.vsbicl c x, .bic, .vs, [c, x]),
   (.vvxorl c, .xor, .vv, [c]), (.vsxorl c x, .xor, .vs, [c, x])]

/-- VSL, VSR (R258 to R261). -/
def shiftForms (c x : Spec) : List (Instr × ShiftOp × Form × List Spec) :=
  [(.vvsrll c, .right, .vv, [c]), (.vssrll c x, .right, .vs, [c, x]),
   (.vvslll c, .left, .vv, [c]), (.vsslll c x, .left, .vs, [c, x])]

/-- Floating add, subtract, multiply, divide (R280 to R303). -/
def floatForms (c x : Spec) : List (Instr × FloatFmt × FloatOp × Form × List Spec) :=
  [(.vvaddg c, .g, .add, .vv, [c]), (.vsaddg c x, .g, .add, .vs, [c, x]),
   (.vvaddf c, .f, .add, .vv, [c]), (.vsaddf c x, .f, .add, .vs, [c, x]),
   (.vvaddd c, .d, .add, .vv, [c]), (.vsaddd c x, .d, .add, .vs, [c, x]),
   (.vvsubg c, .g, .sub, .vv, [c]), (.vssubg c x, .g, .sub, .vs, [c, x]),
   (.vvsubf c, .f, .sub, .vv, [c]), (.vssubf c x, .f, .sub, .vs, [c, x]),
   (.vvsubd c, .d, .sub, .vv, [c]), (.vssubd c x, .d, .sub, .vs, [c, x]),
   (.vvmulg c, .g, .mul, .vv, [c]), (.vsmulg c x, .g, .mul, .vs, [c, x]),
   (.vvmulf c, .f, .mul, .vv, [c]), (.vsmulf c x, .f, .mul, .vs, [c, x]),
   (.vvmuld c, .d, .mul, .vv, [c]), (.vsmuld c x, .d, .mul, .vs, [c, x]),
   (.vvdivg c, .g, .div, .vv, [c]), (.vsdivg c x, .g, .div, .vs, [c, x]),
   (.vvdivf c, .f, .div, .vv, [c]), (.vsdivf c x, .f, .div, .vs, [c, x]),
   (.vvdivd c, .d, .div, .vv, [c]), (.vsdivd c x, .d, .div, .vs, [c, x])]

/-- VCMPL and its forms (R234, R235, R156). -/
def integerCompareForms (c x : Spec) : List (Instr × Form × List Spec) :=
  [(.vvcmpl c, .vv, [c]), (.vscmpl c x, .vs, [c, x]),
   (.vvgtrl c, .vv, [c]), (.vveqll c, .vv, [c]),
   (.vvlssl c, .vv, [c]), (.vvleql c, .vv, [c]),
   (.vvneql c, .vv, [c]), (.vvgeql c, .vv, [c]),
   (.vsgtrl c x, .vs, [c, x]), (.vseqll c x, .vs, [c, x]),
   (.vslssl c x, .vs, [c, x]), (.vsleql c x, .vs, [c, x]),
   (.vsneql c x, .vs, [c, x]), (.vsgeql c x, .vs, [c, x])]

/-- VCMPF, VCMPD, VCMPG and their forms (R313 to R318, R156). -/
def floatCompareForms (c x : Spec) : List (Instr × FloatFmt × Form × List Spec) :=
  [(.vvcmpg c, .g, .vv, [c]), (.vscmpg c x, .g, .vs, [c, x]),
   (.vvcmpf c, .f, .vv, [c]), (.vscmpf c x, .f, .vs, [c, x]),
   (.vvcmpd c, .d, .vv, [c]), (.vscmpd c x, .d, .vs, [c, x]),
   (.vvgtrf c, .f, .vv, [c]), (.vveqlf c, .f, .vv, [c]),
   (.vvlssf c, .f, .vv, [c]), (.vvleqf c, .f, .vv, [c]),
   (.vvneqf c, .f, .vv, [c]), (.vvgeqf c, .f, .vv, [c]),
   (.vsgtrf c x, .f, .vs, [c, x]), (.vseqlf c x, .f, .vs, [c, x]),
   (.vslssf c x, .f, .vs, [c, x]), (.vsleqf c x, .f, .vs, [c, x]),
   (.vsneqf c x, .f, .vs, [c, x]), (.vsgeqf c x, .f, .vs, [c, x]),
   (.vvgtrd c, .d, .vv, [c]), (.vveqld c, .d, .vv, [c]),
   (.vvlssd c, .d, .vv, [c]), (.vvleqd c, .d, .vv, [c]),
   (.vvneqd c, .d, .vv, [c]), (.vvgeqd c, .d, .vv, [c]),
   (.vsgtrd c x, .d, .vs, [c, x]), (.vseqld c x, .d, .vs, [c, x]),
   (.vslssd c x, .d, .vs, [c, x]), (.vsleqd c x, .d, .vs, [c, x]),
   (.vsneqd c x, .d, .vs, [c, x]), (.vsgeqd c x, .d, .vs, [c, x]),
   (.vvgtrg c, .g, .vv, [c]), (.vveqlg c, .g, .vv, [c]),
   (.vvlssg c, .g, .vv, [c]), (.vvleqg c, .g, .vv, [c]),
   (.vvneqg c, .g, .vv, [c]), (.vvgeqg c, .g, .vv, [c]),
   (.vsgtrg c x, .g, .vs, [c, x]), (.vseqlg c x, .g, .vs, [c, x]),
   (.vslssg c x, .g, .vs, [c, x]), (.vsleqg c x, .g, .vs, [c, x]),
   (.vsneqg c x, .g, .vs, [c, x]), (.vsgeqg c x, .g, .vs, [c, x])]

/-- VVCVT and its forms (R320, R323 to R335). -/
def convertForms (c : Spec) : List Instr :=
  [.vvcvt c, .vvcvtlf c, .vvcvtld c, .vvcvtlg c, .vvcvtfl c,
   .vvcvtrfl c, .vvcvtfd c, .vvcvtfg c, .vvcvtdl c, .vvcvtdf c,
   .vvcvtrdl c, .vvcvtgl c, .vvcvtgf c, .vvcvtrgl c]

/-- VVMERGE, VSMERGE (R341, R342). -/
def mergeForms (c x : Spec) : List (Instr × Form × List Spec) :=
  [(.vvmerge c, .vv, [c]), (.vsmerge c x, .vs, [c, x])]

/-- VLD, VGATH (R215 to R218). -/
def loadForms (c b x : Spec) : List (Instr × ElemSize × Addressing × List Spec) :=
  [(.vldl c b x, .long, .strided, [c, b, x]), (.vldq c b x, .quad, .strided, [c, b, x]),
   (.vgathl c b, .long, .indexed, [c, b]), (.vgathq c b, .quad, .indexed, [c, b])]

/-- VST, VSCAT (R219 to R222). -/
def storeForms (c b x : Spec) : List (Instr × ElemSize × Addressing × List Spec) :=
  [(.vstl c b x, .long, .strided, [c, b, x]), (.vstq c b x, .quad, .strided, [c, b, x]),
   (.vscatl c b, .long, .indexed, [c, b]), (.vscatq c b, .quad, .indexed, [c, b])]

/-- Every instruction that takes a control word, with what is sent for it (R24, R180). -/
def lengthForms (c b x : Spec) : List (Instr × VOp × List Spec) :=
  (integerForms c x).map (fun (i, op, f, l) => (i, .intArith op f, l)) ++
  (logicalForms c x).map (fun (i, op, f, l) => (i, .logical op f, l)) ++
  (shiftForms c x).map (fun (i, op, f, l) => (i, .shift op f, l)) ++
  (floatForms c x).map (fun (i, t, op, f, l) => (i, .floatArith t op f, l)) ++
  (integerCompareForms c x).map (fun (i, f, l) => (i, .intCompare f, l)) ++
  (floatCompareForms c x).map (fun (i, t, f, l) => (i, .floatCompare t f, l)) ++
  (convertForms c).map (fun i => (i, .convert, [c])) ++
  (mergeForms c x).map (fun (i, f, l) => (i, .merge f, l)) ++
  [(.iota c x, .iota, [c, x])] ++
  (loadForms c b x).map (fun (i, sz, ad, l) => (i, .load sz ad, l)) ++
  (storeForms c b x).map (fun (i, sz, ad, l) => (i, .store sz ad, l))

/-- The second bytes of the 63 vector opcodes (R149). -/
def assignedOpcodes : List Nat :=
  [0x31, 0x34, 0x35, 0x36, 0x37, 0x80, 0x81, 0x82, 0x83, 0x84, 0x85, 0x86, 0x87, 0x88, 0x89, 0x8A, 0x8B, 0x8C, 0x8D,
   0x8E, 0x8F, 0x9C, 0x9D, 0x9E, 0x9F, 0xA0, 0xA1, 0xA2, 0xA3, 0xA4, 0xA5, 0xA6, 0xA7, 0xA8, 0xA9, 0xAA, 0xAB, 0xAC,
   0xAD, 0xAE, 0xAF, 0xC0, 0xC1, 0xC2, 0xC3, 0xC4, 0xC5, 0xC6, 0xC7, 0xC8, 0xC9, 0xCC, 0xCD, 0xE0, 0xE1, 0xE4, 0xE5,
   0xE8, 0xE9, 0xEC, 0xED, 0xEE, 0xEF]

end Sys2Proof.Machine
end

