-- ==== Sys2Proof/Certificates/Slice0/Obligations.lean ====
section
/-! DEFINITION. The statements. Every statement about an instruction says that `exec` answers a next state, what that
state holds, and what it leaves unchanged. -/

open Sys2Proof Sys2Proof.Machine

/-! ### Reset and invariants -/

/-- Reset (R59, R460): VPSR and VAER are zero, S_VEN is clear, nothing is queued, pending to be reported or unreported, no
hardware error has been met. That the translation buffer is empty is the model's choice (log entry 6). -/
def Obligations.ResetState : Prop :=
  State.reset.vp.vpsr = 0 ∧ State.reset.vp.vaer = 0 ∧ State.reset.cpu.venSeen = false ∧
  State.reset.vp.queue = [] ∧ State.reset.vp.pendingMm = none ∧ State.reset.vp.aexPending = false ∧
  State.reset.vp.vaerOld = 0 ∧ State.reset.vp.aexLate = false ∧
  State.reset.vp.taint = {} ∧ State.reset.vp.hwMem = false ∧ State.reset.vp.hwOp = false ∧
  State.reset.vp.halted = false ∧ State.reset.vp.flushOnEnable = false ∧ State.reset.vp.tb = [] ∧
  State.reset.cpu.afterDisabled = false ∧
  busy State.reset = false ∧ State.reset.vp.vpsrImage (busy State.reset) = 0

/-- The invariant holds at reset. -/
def Obligations.ResetMeetsInvariant : Prop := Legal State.reset

/-- Every step keeps the invariant: canonical memory, reserved bits of VPSR and VAER zero, bits that are not implemented
zero, VSAR quadword aligned, an exception held wherever PMF announces one, PMF and MF zero and every pending memory
instruction checked under the synchronous method (R36 to R49, R174, R413). -/
def Obligations.StepKeepsInvariant : Prop := ∀ s t, Legal s → step s = .next t → Legal t

/-- No step changes the implementation's parameters or the page tables, and the counter of free values never falls: the
model's choice (log entries 1, 5 and 10). -/
def Obligations.StepKeepsConfiguration : Prop :=
  ∀ s t, step s = .next t → t.cfg = s.cfg ∧ t.pageMap = s.pageMap ∧ s.draws ≤ t.draws

/-! ### Encoding and the step -/

/-- Decoding the encoding of a well-formed instruction gives it back, with every operand at every value (R130 to R134,
R149, R154). -/
def Obligations.DecodeEncode : Prop :=
  ∀ r i rest, Instr.wellFormed r i = true → decodeBytes r (encode i ++ rest) = .ok (.vector i, rest)

/-- A few words written out from R131, R134, R141 and R350: VVADDL with cntrl 0123 as an immediate, MTVLR #4, MSYNC R0,
VSADDL with a constant, VLDL with all three operands. -/
def Obligations.DecodeWords : Prop :=
  decodeBytes {} [0xFD, 0x80, 0x8F, 0x23, 0x01] = .ok (.vector (.vvaddl (.immediate 0x0123)), []) ∧
  decodeBytes {} [0xFD, 0xA9, 0x01, 0x04] = .ok (.vector (.mtvlr (.literal 1) (.literal 4)), []) ∧
  decodeBytes {} [0xFD, 0x31, 0x05, 0x50] = .ok (.vector (.msync (.literal 5) (.reg 0)), []) ∧
  decodeBytes {} [0xFD, 0x81, 0x8F, 0x23, 0x00, 0x8F, 0x0A, 0x00, 0x00, 0x00] =
    .ok (.vector (.vsaddl (.immediate 0x0023) (.immediate 0x0000000A)), []) ∧
  decodeBytes {} [0xFD, 0x34, 0x8F, 0x03, 0x00, 0x61, 0x04] =
    .ok (.vector (.vldl (.immediate 0x0003) (.mem (.deferred 1)) (.literal 4)), [])

/-- FD and a byte to which no vector function is assigned decode to no instruction. Under the recommended report the scalar
processor takes the reserved-instruction fault; under the other the vector processor, if it is seen enabled and nothing is
pending, sets IVO where it is implemented, clears VEN, and nothing else changes but what the operands do and the PC (R150,
R405). The model's choice (log entry 35): that every byte that is not assigned, 00 to 30 hex included, is a vector opcode,
which R150 leaves open, and that the operands IVO needs, and so the length, are the configuration's. -/
def Obligations.IllegalOpcode : Prop :=
  (∀ r b rest, b.toNat ∉ assignedOpcodes →
    decodeBytes r (0xFD :: b :: rest) = .error (.illegalVectorOpcode b)) ∧
  (∀ s op, s.cfg.reportOf op = .rsvdInstrFault → execIllegal op s = takeException .reservedInstr s) ∧
  (∀ s op accs sps rest o, s.cfg.reportOf op = .ivo accs → s.cfg.implementsIvo = true → Issuable s →
    s.vp.queue = [] →
    let f := fetchBytes s (2 + 9 * accs.length) s.cpu.pc
    parseSpecs accs (f.bytes.drop 2) = .ok (sps, rest) → overwritten s f (f.bytes.length - rest.length) = false →
    evalOperands 2 accs sps s = .ok o →
    ∃ t, execIllegal op s = .next t ∧ t.vp.vpsr.getLsbD 25 = true ∧ t.vp.vpsr.getLsbD 0 = false ∧
      (∀ b, b ≠ 25 → b ≠ 0 → t.vp.vpsr.getLsbD b = s.vp.vpsr.getLsbD b) ∧
      t = { afterOperands o with vp := { s.vp with vpsr := t.vp.vpsr } })

/-- A step runs the decoded instruction (R118, R131): after what the vector processor does in between, `step` is `exec`
of what the bytes at the PC decode to. The model's choice (log entries 3 and 4): where nothing is pending, no plan is
left and nothing races, the in-between makes every write visible and brings S_VEN up to date, and does nothing else. -/
def Obligations.StepRunsDecoded : Prop :=
  (∀ s s' i len, advance s = .next s' →
    decode s'.cfg.regnum (fetchBytes s' maxLength s'.cpu.pc).bytes = .ok (.vector i, len) →
    overwritten s' (fetchBytes s' maxLength s'.cpu.pc) len = false →
    step s = exec i s') ∧
  (∀ s, Quiet s → s.races = [] → s.vp.hwMem = false → s.vp.hwOp = false → s.vp.vaerOld = 0 → s.vp.aexLate = false →
    advance s = .next s.flushAll.seeVen)

/-! ### Operands -/

/-- Evaluating operands changes only the registers that autoincrement and autodecrement modes name, and the counter of
free values; the stack pointers that the PSL does not select keep their values too (R134, R144, R160; which stack pointer
R14 is: log entry 7). -/
def Obligations.OperandsKeepOtherRegisters : Prop :=
  ∀ header accs sps s o, evalOperands header accs sps s = .ok o →
    RegistersOnly s o.state ∧ (∀ n, n ∉ modifiedRegs sps → SameRegister n s o.state) ∧
    ∀ k : Fin 5, k ≠ Scalar.stackIndex s.cpu.psl → o.state.cpu.sps[k] = s.cpu.sps[k]

/-- What the addressing modes give (R134, R148). A source operand of 2, 4 or 8 bytes: a literal is zero-extended, an
immediate is its constant, a register its low bytes or a register pair; `(Rn)`, `(Rn)+`, `-(Rn)`, displacement and absolute
modes the datum at their address, the deferred modes the datum at the address that is stored there; the autoincrement and
autodecrement modes leave Rn moved by the operand's size, autoincrement deferred by 4; an index register times the size is
added to the base's address (read after the base's side effect: the model's choice, log entry 17). A base operand is the
address itself and its size is 1. Each datum is what the scalar processor sees at that read: a vector write that races with the
instruction is seen from some read on, and not before (R107; by which data: log entry 2). -/
def Obligations.OperandModes : Prop :=
  (∀ (k : Nat) (acc : Access) (cursor : Long) (s : State), acc = .rw ∨ acc = .rl ∨ acc = .rq →
    let reg := fun n : RegNo => s.cpu.readReg n cursor
    let size := BitVec.ofNat 32 acc.size
    (∀ v, evalSpec k acc [] (.literal v) cursor s = .ok ⟨.value (v.zeroExtend 64), s, []⟩) ∧
    (∀ v, evalSpec k acc [] (.immediate v) cursor s = .ok ⟨.value v, s, []⟩) ∧
    (∀ n : RegNo, acc ≠ .rq →
      evalSpec k acc [] (.reg n) cursor s =
        .ok ⟨.value (BitVec.ofNat 64 ((reg n).toNat % 2 ^ (8 * acc.size))), s, []⟩) ∧
    (∀ n : RegNo, acc = .rq → n ≠ 15 →
      evalSpec k acc [] (.reg n) cursor s = .ok ⟨.value (Quad.mk (reg (n + 1)) (reg n)), s, []⟩) ∧
    (∀ n : RegNo,
      Reads k acc (.mem (.deferred n)) cursor s s (reg n) [] ∧
      Reads k acc (.mem (.autoinc n)) cursor s (s.setReg n (reg n + size)) (reg n) [] ∧
      Reads k acc (.mem (.autodec n)) cursor s (s.setReg n (reg n - size)) (reg n - size) []) ∧
    (∀ (n : RegNo) d8 d16 d32 a,
      Reads k acc (.mem (.disp8 n d8)) cursor s s (reg n + d8.signExtend 32) [] ∧
      Reads k acc (.mem (.disp16 n d16)) cursor s s (reg n + d16.signExtend 32) [] ∧
      Reads k acc (.mem (.disp32 n d32)) cursor s s (reg n + d32) [] ∧
      Reads k acc (.mem (.absolute a)) cursor s s a []) ∧
    (∀ (n : RegNo) b at' t pas,
      (∃ d, b = .disp8Def n d ∧ at' = reg n + d.signExtend 32 ∧ t = s) ∨
      (∃ d, b = .disp16Def n d ∧ at' = reg n + d.signExtend 32 ∧ t = s) ∨
      (∃ d, b = .disp32Def n d ∧ at' = reg n + d ∧ t = s) ∨
      (b = .autoincDef n ∧ at' = reg n ∧ t = s.setReg n (reg n + 4)) →
      scalarTranslateBytes s s.mode false at' 4 = .ok pas →
      Reads k acc (.mem b) cursor s t (BitVec.ofNat 32 ((s.seenAt (2 * k)).scalarRead pas)) pas) ∧
    (∀ (x : RegNo) b g, evalBase k acc.size b cursor s = .ok g →
      Reads k acc (.indexed x b) cursor s g.state (g.result + g.state.cpu.readReg x cursor * size) g.guards)) ∧
  (∀ (k : Nat) (cursor : Long) (s : State) (n x : RegNo) d a,
    let reg := fun n : RegNo => s.cpu.readReg n cursor
    evalSpec k .ab [] (.mem (.deferred n)) cursor s = .ok ⟨.address (reg n), s, []⟩ ∧
    evalSpec k .ab [] (.mem (.autoinc n)) cursor s = .ok ⟨.address (reg n), s.setReg n (reg n + 1), []⟩ ∧
    evalSpec k .ab [] (.mem (.autodec n)) cursor s = .ok ⟨.address (reg n - 1), s.setReg n (reg n - 1), []⟩ ∧
    evalSpec k .ab [] (.mem (.disp32 n d)) cursor s = .ok ⟨.address (reg n + d), s, []⟩ ∧
    evalSpec k .ab [] (.mem (.absolute a)) cursor s = .ok ⟨.address a, s, []⟩ ∧
    evalSpec k .ab [] (.indexed x (.deferred n)) cursor s = .ok ⟨.address (reg n + reg x), s, []⟩) ∧
  (∀ (s : State) n u, s.races = [(n, u)] → ∀ m, s.seenAt m = if n ≤ m then s.completeWrite u else s)

/-! ### Vector operate instructions -/

/-- VADDL, VSUBL, VMULL (R231, R232, R236 to R240): every active element's low longword is the low 32 bits of the exact
sum, difference (first minus Vb) or product; overflow is recorded against Vc where EXC is set; nothing else changes. -/
def Obligations.IntegerArithmetic : Prop :=
  ∀ c x i op form sps s o, (i, op, form, sps) ∈ integerForms c x → Runs (.intArith op form) sps o s →
    let exact := fun k =>
      let a := (firstValue form s o k).lo.toInt
      let b := (secondValue s o k).lo.toInt
      match op with
      | .add => a + b
      | .sub => a - b
      | .mul => a * b
    ∃ t types, exec i s = .next t ∧ OnlyVp (afterOperands o) t ∧ OnlyResults s.vp t.vp ∧ OtherElementsKeep s t o ∧
      (∀ k, Active s o k → (resultOf o t k).lo = BitVec.ofInt 32 (exact k)) ∧
      (∀ k, types k = 32 ∨ types k = 0) ∧
      (∀ k, types k = 32 ↔ Active s o k ∧ exc (controlWord o) = true ∧ Overflows (exact k)) ∧
      Recorded types (some (fieldC (controlWord o))) s.vp t.vp

/-- VBIS, VXOR, VBIC (R250 to R256): the Boolean function on the low longwords, the high longword copied from Vb, no
exception. -/
def Obligations.LogicalOperations : Prop :=
  ∀ c x i op form sps s o, (i, op, form, sps) ∈ logicalForms c x → Runs (.logical op form) sps o s →
    ∃ t, exec i s = .next t ∧ OnlyVp (afterOperands o) t ∧
      t.vp = { s.vp with v := t.vp.v, taint := t.vp.taint } ∧ OtherElementsKeep s t o ∧
      ∀ k, Active s o k →
        (resultOf o t k).hi = (secondValue s o k).hi ∧
        ∀ b, (resultOf o t k).lo.getLsbD b =
          (let p := (firstValue form s o k).lo.getLsbD b
           let q := (secondValue s o k).lo.getLsbD b
           match op with
           | .bis => p || q
           | .xor => p ^^ q
           | .bic => !p && q)

/-- VSL, VSR (R257 to R261): the low longword of Vb shifted by the low five bits of the count, zeros entering, no
exception. -/
def Obligations.Shifts : Prop :=
  ∀ c x i op form sps s o, (i, op, form, sps) ∈ shiftForms c x → Runs (.shift op form) sps o s →
    ∃ t, exec i s = .next t ∧ OnlyVp (afterOperands o) t ∧
      t.vp = { s.vp with v := t.vp.v, taint := t.vp.taint } ∧ OtherElementsKeep s t o ∧
      ∀ k, Active s o k →
        (resultOf o t k).lo.toNat =
          (let n := (firstValue form s o k).toNat % 32
           match op with
           | .left => (secondValue s o k).lo.toNat * 2 ^ n % 2 ^ 32
           | .right => (secondValue s o k).lo.toNat / 2 ^ n)

/-- Floating add, subtract, multiply, divide (R276 to R303): every active element gets the rounded result, or the encoded
reserved operand of what it raised, which is recorded against Vc; nothing else changes. -/
def Obligations.FloatArithmetic : Prop :=
  ∀ c x i fmt op form sps s o, (i, fmt, op, form, sps) ∈ floatForms c x → Runs (.floatArith fmt op form) sps o s →
    ∃ t types, exec i s = .next t ∧ OnlyVp (afterOperands o) t ∧ OnlyResults s.vp t.vp ∧ OtherElementsKeep s t o ∧
      (∀ k, Active s o k →
        FloatOutcome fmt op (exc (controlWord o)) (firstValue form s o k) (secondValue s o k) (resultOf o t k) (types k)) ∧
      (∀ k, ¬ Active s o k → types k = 0) ∧
      Recorded types (some (fieldC (controlWord o))) s.vp t.vp

/-- VCMPL and its forms (R233 to R235): every active mask bit tells the relation of the signed longwords; the other mask
bits keep their value; no exception. -/
def Obligations.IntegerCompares : Prop :=
  ∀ c x i form sps s o, (i, form, sps) ∈ integerCompareForms c x → Runs (.intCompare form) sps o s →
    ∃ t, exec i s = .next t ∧ OnlyVp (afterOperands o) t ∧
      t.vp = { s.vp with vmr := t.vp.vmr, taint := t.vp.taint } ∧
      (∀ k, Active s o k → (t.vp.vmr.getLsbD k = true ↔
        Relation (compareFn (controlWord o)) ((firstValue form s o k).lo.toInt : ℚ) ((secondValue s o k).lo.toInt : ℚ))) ∧
      (∀ k : Fin 64, ¬ Active s o k → t.vp.vmr.getLsbD k = s.vp.vmr.getLsbD k)

/-- VCMPF, VCMPD, VCMPG and their forms (R310 to R318): every active mask bit tells the relation of the values where
neither is a reserved operand; a reserved operand is recorded without a destination register; the other mask bits keep
their value. -/
def Obligations.FloatCompares : Prop :=
  ∀ c x i fmt form sps s o, (i, fmt, form, sps) ∈ floatCompareForms c x → Runs (.floatCompare fmt form) sps o s →
    ∃ t types, exec i s = .next t ∧ OnlyVp (afterOperands o) t ∧ OnlyMask s.vp t.vp ∧
      (∀ k, Active s o k → fmt.isRsvd (firstValue form s o k) = false → fmt.isRsvd (secondValue s o k) = false →
        types k = 0 ∧ (t.vp.vmr.getLsbD k = true ↔
          Relation (compareFn (controlWord o)) (fmt.value (firstValue form s o k)).toRat
            (fmt.value (secondValue s o k)).toRat)) ∧
      (∀ k, Active s o k → fmt.isRsvd (firstValue form s o k) = true ∨ fmt.isRsvd (secondValue s o k) = true →
        types k = 4) ∧
      (∀ k : Fin 64, ¬ Active s o k → types k = 0 ∧ t.vp.vmr.getLsbD k = s.vp.vmr.getLsbD k) ∧
      Recorded types none s.vp t.vp

/-- VVCVT and its forms (R320 to R335): every active element gets the conversion that `cntrl<11:8>` names; what it raises
is recorded against Vc; nothing else changes. -/
def Obligations.Converts : Prop :=
  ∀ c i s o, i ∈ convertForms c → Runs .convert [c] o s →
    ∃ t types, exec i s = .next t ∧ OnlyVp (afterOperands o) t ∧ OnlyResults s.vp t.vp ∧ OtherElementsKeep s t o ∧
      (∀ k, Active s o k →
        ConvertOutcome (fieldA (controlWord o)) (exc (controlWord o)) (secondValue s o k) (resultOf o t k) (types k)) ∧
      (∀ k, ¬ Active s o k → types k = 0) ∧
      Recorded types (some (fieldC (controlWord o))) s.vp t.vp

/-- VVMERGE, VSMERGE (R340 to R342): below VLR every element is the first operand's where VMR matches MTF, else Vb's, all
64 bits; every other element of every register keeps its value. -/
def Obligations.Merges : Prop :=
  ∀ c x i form sps s o, (i, form, sps) ∈ mergeForms c x → Runs (.merge form) sps o s →
    ∃ t, exec i s = .next t ∧ OnlyVp (afterOperands o) t ∧
      t.vp = { s.vp with v := t.vp.v, taint := t.vp.taint } ∧
      (∀ k : Fin 64, k.val < s.vp.vlr.toNat → resultOf o t k =
        if s.vp.vmr.getLsbD k = (controlWord o).getLsbD 14 then firstValue form s o k else secondValue s o k) ∧
      (∀ r (k : Fin 64), r ≠ fieldC (controlWord o) ∨ s.vp.vlr.toNat ≤ k.val → t.vp.elem r k = s.vp.elem r k)

/-- IOTA (R343): the offsets `i * stride` of the positions below VLR where VMR matches MTF are written to consecutive
elements, VCR is their number, elements at and above VLR and other registers keep their value. -/
def Obligations.IotaCompresses : Prop :=
  ∀ c x s o, Runs .iota [c, x] o s →
    let taken := fun i : Nat => s.vp.vmr.getLsbD i == (controlWord o).getLsbD 14
    let before := fun i : Nat => ((List.range i).filter taken).length
    ∃ t, exec (.iota c x) s = .next t ∧ OnlyVp (afterOperands o) t ∧
      t.vp = { s.vp with v := t.vp.v, taint := t.vp.taint, vcr := t.vp.vcr } ∧
      t.vp.vcr.toNat = before s.vp.vlr.toNat ∧
      (∀ (i j : Fin 64), i.val < s.vp.vlr.toNat → taken i.val = true → j.val = before i.val →
        (resultOf o t j).lo.toNat = i.val * (o.value 1).lo.toNat % 2 ^ 32) ∧
      (∀ r (k : Fin 64), r ≠ fieldC (controlWord o) ∨ s.vp.vlr.toNat ≤ k.val → t.vp.elem r k = s.vp.elem r k)

/-! ### Vector memory access -/

/-- VLD, VGATH (R211, R215 to R218): where every active element's reference passes the checks, every active element holds
the longword (in its low half) or the quadword at its address; no other element, no memory, no other state changes. -/
def Obligations.Loads : Prop :=
  ∀ c b x i sz ad sps s o pa, (i, sz, ad, sps) ∈ loadForms c b x → Runs (.load sz ad) sps o s →
    (ad = .indexed → fieldB (controlWord o) ≠ fieldC (controlWord o)) →
    References false sz ad (entryOf (.load sz ad) o s) s pa →
    ∃ t, exec i s = .next t ∧ OnlyVp (afterOperands o) t ∧ OnlyLoaded s.vp t.vp ∧ OtherElementsKeep s t o ∧
      ∀ k, Active s o k →
        match sz with
        | .long => (resultOf o t k).lo = BitVec.ofNat 32 (s.mem.readLE (pa k) 4)
        | .quad => resultOf o t k = BitVec.ofNat 64 (s.mem.readLE (pa k) 8)

/-- VGATH with one register as source and destination (R225; log entry 55): where every active element's reference
passes the checks it completes, and only that register changes; all 64 elements of it, also where it loads none, become free
values that nothing constrains. With masks, every element of it below VLR depends on its mask
bit, also where that does not select it (R192). -/
def Obligations.GatherSameRegister : Prop :=
  ∀ c b x i sz sps s o pa, (i, sz, .indexed, sps) ∈ loadForms c b x → Runs (.load sz .indexed) sps o s →
    fieldB (controlWord o) = fieldC (controlWord o) →
    References false sz .indexed (entryOf (.load sz .indexed) o s) s pa →
    ∃ t, exec i s = .next t ∧ OnlyVp (afterOperands o) t ∧ OnlyLoaded s.vp t.vp ∧
      (∀ r k, r ≠ fieldC (controlWord o) → t.vp.elem r k = s.vp.elem r k) ∧
      (∃ n, ∀ k : Fin 64, resultOf o t k = Config.draw (n + k.val)) ∧
      ∀ k : Fin 64, k.val < s.vp.vlr.toNat → (controlWord o).getLsbD 15 = true → s.vp.taint.vmr.getLsbD k = true →
        t.vp.tainted (fieldC (controlWord o)) k = true

/-- VST, VSCAT (R211, R219 to R222, R97): where every active element's reference passes the checks and none lies over the
instruction's own operands, memory changes only in the bytes at the active elements' addresses. A stored element that no
higher active element overlaps is there afterwards: always for VSCAT and for stride zero, and for a nonzero stride where
no other active element's bytes overlap its own. No register changes. That the highest element wins by physical place, also
where two different virtual addresses lead there, is the model's choice (log entry 40). -/
def Obligations.Stores : Prop :=
  ∀ c b x i sz ad sps s o pa, (i, sz, ad, sps) ∈ storeForms c b x → Runs (.store sz ad) sps o s →
    let e := entryOf (.store sz ad) o s
    References true sz ad e s pa → s.mem.wf = true →
    (∀ k, Active s o k → ∀ g ∈ o.guards, g < pa k ∨ pa k + sz.bytes ≤ g) →
    ∃ t, exec i s = .next t ∧
      t = { afterOperands o with vp := t.vp, mem := t.mem, vstores := t.vstores, draws := t.draws } ∧
      t.vp = { s.vp with taint := t.vp.taint, tb := t.vp.tb } ∧
      (∀ a, (∀ k, Active s o k → a < pa k ∨ pa k + sz.bytes ≤ a) →
        t.mem.read a = s.mem.read a ∧ t.scalarByte a = s.scalarByte a) ∧
      (∀ k, Active s o k →
        (∀ j, Active s o j → k < j ∨ (j ≠ k ∧ ad = .strided ∧ e.scalar.lo ≠ 0) →
          pa j + sz.bytes ≤ pa k ∨ pa k + sz.bytes ≤ pa j) →
        t.mem.readLE (pa k) sz.bytes = (resultOf o s k).toNat % 2 ^ (8 * sz.bytes))

/-- Access control violations come first (R84, R88, R212, R408, R409): a misaligned reference, and one to I/O space where
the processor sets VIO, is an access control violation, whatever else is wrong with it, with VAL or VIO among the exceptions
it may report. -/
def Obligations.MisalignedReference : Prop :=
  ∀ s mode write size row va,
    (va.toNat % size ≠ 0 →
      ∃ fs, checkRef s mode write size row va = .fails fs ∧
        (∃ f ∈ fs, f.param.getLsbD s.cfg.faultBits.valBit = decide (s.cfg.faultBits.valBit < 32)) ∧
        ∀ f ∈ fs, f.kind = .accessViolation ∧ f.va = va) ∧
    (∀ pa, s.cfg.setsVio = true → placeOf row va = some pa → inRanges s.cfg.ioSpace pa size = true →
      ∃ fs, checkRef s mode write size row va = .fails fs ∧
        (∃ f ∈ fs, f.param.getLsbD s.cfg.faultBits.vioBit = decide (s.cfg.faultBits.vioBit < 32)) ∧
        ∀ f ∈ fs, f.kind = .accessViolation ∧ f.va = va)

/-- A memory-management exception under the asynchronous method (R413, R416): VPSR<PMF> and VPSR<MF> are set, VEN is not
cleared, the instruction is suspended by an exception of one of its active elements, which waits to be reported, the vector
processor is not busy, and the scalar processor goes on. A load changes no memory and no element that is not active; a store
changes no register and no byte outside the locations whose own references pass, and what it has written is kept with it: the
places, and with each element that it wrote whether its source or, with masks, its mask bit carries an unreported exception
(R193, R357). -/
def Obligations.AsynchronousException : Prop :=
  ∀ c b x i op sps s o, (i, op, sps) ∈ lengthForms c b x → Runs op sps o s → s.cfg.isAsync = true →
    ∀ sz ad write, op = (if write then .store sz ad else .load sz ad) →
    let e := entryOf op o s
    let check := fun pick k =>
      checkRef s s.mode write sz.bytes (vectorRow s e pick (elemAddress ad e s.vp k)) (elemAddress ad e s.vp k)
    (write = false → ad = .indexed → fieldB (controlWord o) ≠ fieldC (controlWord o)) →
    (∀ k pick r, Active s o k → check pick k ≠ .refused r) →
    (write = true → ∀ k pick pa, Active s o k → check pick k = .ok pa →
      ∀ g ∈ o.guards, g < pa ∨ pa + sz.bytes ≤ g) →
    (∃ k, Active s o k ∧ ∀ pick, ∃ fs, check pick k = .fails fs) →
    ∃ t f e', exec i s = .next t ∧ t.cpu = (afterOperands o).cpu ∧
      t.vp.vpsr = s.vp.vpsr ||| 0x60 ∧ t.vp.pendingMm = some f ∧ t.vp.queue = [e'] ∧ e'.op = op ∧
      e'.fault = some f ∧ e'.done = 0 ∧ busy t = false ∧
      (∃ k pick fs, Active s o k ∧ check pick k = .fails fs ∧ f ∈ fs) ∧
      t.vp.vmr = s.vp.vmr ∧ t.vp.vlr = s.vp.vlr ∧ t.vp.vcr = s.vp.vcr ∧ t.vp.vaer = s.vp.vaer ∧
      (write = false → t.mem = s.mem ∧ OtherElementsKeep s t o) ∧
      (write = true → t.vp.v = s.vp.v ∧
        (∀ a, (∀ k pick pa, Active s o k → check pick k = .ok pa → a < pa ∨ pa + sz.bytes ≤ a) →
          t.mem.read a = s.mem.read a) ∧
        (∀ a, t.mem.read a ≠ s.mem.read a → ∃ q ∈ e'.early, q.pa ≤ a ∧ a < q.pa + q.len) ∧
        ∀ q ∈ e'.early, ∀ k : Fin 64, q.elem = k.val →
          s.vp.tainted (fieldC (controlWord o)) k = true ∨
            ((controlWord o).getLsbD 15 = true ∧ s.vp.taint.vmr.getLsbD k = true) → e'.tainted.getLsbD k = true)

/-- A memory-management exception under the synchronous method (R412, R416): the fault, one that an active element's check
gives, is taken on the instruction itself with the scalar processor as before it; VPSR is untouched and nothing stays
queued. A load changes no memory, no element that is not active, and nothing of what depends on what; a store changes no
register and no byte outside the locations whose own references pass, and what depends on what only in what it has stored, and
there only where something carried an unreported exception before (R193). -/
def Obligations.SynchronousException : Prop :=
  ∀ c b x i op sps s o, (i, op, sps) ∈ lengthForms c b x → Runs op sps o s → s.cfg.isAsync = false →
    ∀ sz ad write, op = (if write then .store sz ad else .load sz ad) →
    let e := entryOf op o s
    let check := fun pick k =>
      checkRef s s.mode write sz.bytes (vectorRow s e pick (elemAddress ad e s.vp k)) (elemAddress ad e s.vp k)
    (write = false → ad = .indexed → fieldB (controlWord o) ≠ fieldC (controlWord o)) →
    (∀ k pick r, Active s o k → check pick k ≠ .refused r) →
    (write = true → ∀ k pick pa, Active s o k → check pick k = .ok pa →
      ∀ g ∈ o.guards, g < pa ∨ pa + sz.bytes ≤ g) →
    (∃ k, Active s o k ∧ ∀ pick, ∃ fs, check pick k = .fails fs) →
    ∃ u f, exec i s = takeException (.mm f) u ∧ u.cpu = s.cpu ∧
      (∃ k pick fs, Active s o k ∧ check pick k = .fails fs ∧ f ∈ fs) ∧
      u.vp = { s.vp with v := u.vp.v, tb := u.vp.tb, taint := u.vp.taint } ∧
      (write = false → u.mem = s.mem ∧ OtherElementsKeep s u o ∧ u.vp.taint = s.vp.taint) ∧
      (write = true → u.vp.v = s.vp.v ∧
        u.vp.taint = { s.vp.taint with mem := u.vp.taint.mem, stored := u.vp.taint.stored } ∧
        (s.vp.taint = {} → u.vp.taint = {}) ∧
        ∀ a, (∀ k pick pa, Active s o k → check pick k = .ok pa → a < pa ∨ pa + sz.bytes ≤ a) →
          u.mem.read a = s.mem.read a)

/-- Resumption (R172, R415, R417). An instruction that is issued with MF set clears it and marks what is suspended to be
retried: it does what it does where that has happened before it. That it marks every suspended instruction at once, where
R172 speaks of one reference, is the model's choice (log entry 33). What is behind such an instruction and has not started does
not execute before the retry. An instruction that is retried, of which some elements may have been done before it was
suspended, and whose other references now pass, completes when it next executes. A load leaves every active element loaded,
each with what its own access read; a store leaves every byte stored that no other element's access overlaps, and does not
write one again that it had stored before (R97). -/
def Obligations.RetryCompletes : Prop :=
  (∀ (i : Instr) s o, evalOperands 2 i.accesses i.operands s = .ok o → s.cfg.vpPresent = true →
    s.cpu.venSeen = true → s.vp.pmf = false → s.cpu.mapen = true → exec i s = exec i (retrySuspended s)) ∧
  (∀ (s : State) j k ej ek, j < k → s.vp.queue[j]? = some ej → s.vp.queue[k]? = some ek → ej.retrying = true →
    ek.started = false → ∀ elems part, runEntry k elems part s = .next s) ∧
  ∀ s e sz ad write (pa : Fin 64 → Nat), s.cfg.isAsync = true → s.vp.mf = true → s.vp.halted = false → s.vp.queue = [e] →
    e.suspended = true → e.op = (if write then .store sz ad else .load sz ad) → e.checked = none →
    e.len.toNat ≤ 64 → (write = false → ad = .indexed → fieldB e.cntrl ≠ fieldC e.cntrl) →
    let p := e.sees s.vp
    let open' := fun k : Fin 64 => e.isActive p.vmr k = true ∧ e.done.getLsbD k = false ∧ e.left.getLsbD k = false
    (∃ k, open' k) →
    (∀ k, open' k → ∀ pick,
      checkRef s e.mode write sz.bytes (vectorRow s e pick (elemAddress ad e p k)) (elemAddress ad e p k) = .ok (pa k)) →
    (write = true → ∀ k, open' k → ∀ g ∈ e.guards, g < pa k ∨ pa k + sz.bytes ≤ g) →
    retrySuspended s = { s with
      vp := { s.vp with vpsr := s.vp.vpsr &&& ~~~0x20, queue := [{ e with phase := .retrying }] } } ∧
    ∃ t, drain (retrySuspended s) = .next t ∧ t.vp.mf = false ∧ t.vp.pmf = s.vp.pmf ∧ t.vp.queue = [] ∧
      t.cpu = s.cpu ∧ t.mem = s.mem ∧
      (write = false → ∀ k : Fin 64,
        (open' k →
          match sz with
          | .long => (t.vp.elem (fieldC e.cntrl) k).lo = BitVec.ofNat 32 (s.vectorRead (pa k) 4)
          | .quad => t.vp.elem (fieldC e.cntrl) k = BitVec.ofNat 64 (s.vectorRead (pa k) 8)) ∧
        (e.done.getLsbD k = true → t.vp.elem (fieldC e.cntrl) k = e.res[k])) ∧
      (write = true → ∀ k, open' k →
        (∀ j, open' j → j ≠ k → pa j + sz.bytes ≤ pa k ∨ pa k + sz.bytes ≤ pa j) →
        (∀ q ∈ e.parts, q.elem ≠ k.val → q.pa + q.len ≤ pa k ∨ pa k + sz.bytes ≤ q.pa) →
        ∀ b, b < sz.bytes →
          ((∀ q ∈ e.parts, q.elem = k.val → b < q.off ∨ q.off + q.len ≤ b) →
            t.vectorByte (pa k + b) = (p.elem (fieldC e.cntrl) k).extractLsb' (8 * b) 8) ∧
          ((∃ q ∈ e.parts, q.elem = k.val ∧ q.off ≤ b ∧ b < q.off + q.len) →
            t.vectorByte (pa k + b) = s.vectorByte (pa k + b)))

/-- Modify intent (R139, R226): bit 13 of the control word changes nothing that a load does: neither its accesses nor what
they leave in the registers. Format b and d have no such bit: a store with it set is refused (R141, R142; D27, log
entry 20). -/
def Obligations.ModifyIntent : Prop :=
  (∀ sz ad w e m part s p, e.op = .load sz ad →
    let flip := fun e : QEntry => { e with cntrl := e.cntrl ^^^ 0x2000 }
    moveLoad sz ad w (flip e) m part s = (moveLoad sz ad w e m part s).mapEntry flip ∧
      (flip e).settle p = e.settle p) ∧
  (∀ c b x i sz ad sps s o, (i, sz, ad, sps) ∈ storeForms c b x →
    evalOperands 2 (VOp.accesses (.store sz ad)) sps s = .ok o → Issuable s →
    secondSpec Spec.isImmediate sps = false → (controlWord o).getLsbD 13 = true →
    exec i s = .refused .controlWord)

/-- Writing a datum of `n` bytes to memory and reading it back (R82): little-endian, and no other byte changes. -/
def Obligations.MemoryReadAfterWrite : Prop :=
  ∀ (m : Memory) a n v, m.wf = true →
    (m.writeCells (cellsLE a n v)).readLE a n = v % 2 ^ (8 * n) ∧
    (∀ j, j < n → ((m.writeCells (cellsLE a n v)).read (a + j)).toNat = v / 2 ^ (8 * j) % 256) ∧
    ∀ x, x < a ∨ a + n ≤ x → (m.writeCells (cellsLE a n v)).read x = m.read x

/-! ### MTVP, VSYNC, MFVP -/

/-- MTVMRLO and MTVMRHI (R363, R364), by their own constructors and as MTVP with their register numbers: the half of VMR is
written, the other half and every other register keep their values. -/
def Obligations.MoveToMask : Prop :=
  ∀ a b i r s o, (i = .mtvmrlo a b ∧ r = .vmrlo ∨ i = .mtvmrhi a b ∧ r = .vmrhi ∨
      i = .mtvp a b ∧ (r = .vmrlo ∨ r = .vmrhi) ∧ ctrlOfRegnum s.cfg.regnum ((o.value 0).truncate 16) = some r) →
    evalOperands 2 [.rw, .rl] [a, b] s = .ok o → Issuable s → Quiet s →
    ∃ t, exec i s = .next t ∧ OnlyVp (afterOperands o) t ∧ t.vp = { s.vp with vmr := t.vp.vmr, taint := t.vp.taint } ∧
      (r = .vmrlo → t.vp.vmr.lo = (o.value 1).lo ∧ t.vp.vmr.hi = s.vp.vmr.hi) ∧
      (r = .vmrhi → t.vp.vmr.hi = (o.value 1).lo ∧ t.vp.vmr.lo = s.vp.vmr.lo)

/-- MTVLR and MTVCR (R361, R362), by their own constructors and as MTVP with their register numbers: the seven low bits
are written, where the rest of the source is zero; with a bit above them set the instruction is refused, which is the spec's
decision D8 (log entry 22). -/
def Obligations.MoveToLengthAndCount : Prop :=
  ∀ a b i r s o, (i = .mtvlr a b ∧ r = .vlr ∨ i = .mtvcr a b ∧ r = .vcr ∨
      i = .mtvp a b ∧ (r = .vlr ∨ r = .vcr) ∧ ctrlOfRegnum s.cfg.regnum ((o.value 0).truncate 16) = some r) →
    evalOperands 2 [.rw, .rl] [a, b] s = .ok o → Issuable s → Quiet s →
    (2 ^ 7 ≤ (o.value 1).lo.toNat → exec i s = .refused .mtvpHighBits) ∧
    ((o.value 1).lo.toNat < 2 ^ 7 →
      ∃ t, exec i s = .next t ∧ OnlyVp (afterOperands o) t ∧
        (r = .vlr → t.vp = { s.vp with vlr := t.vp.vlr } ∧ t.vp.vlr.toNat = (o.value 1).lo.toNat) ∧
        (r = .vcr → t.vp = { s.vp with vcr := t.vp.vcr, taint := t.vp.taint } ∧
          t.vp.vcr.toNat = (o.value 1).lo.toNat))

/-- VSYNC (R365, R103): with the assigned register number it completes, and where nothing is queued it changes nothing but
what depends on what (R198). An element access behind a VSYNC does not happen while an access before it is still to be made
that conflicts with it: one of them is a write, and their locations may be the same. It has no effect between loads. Where no
VSYNC stands before an instruction nothing but data orders its accesses behind those of older ones (R100, R104, R107): with no
exception met and no hardware error it can execute at once, every element of it that is selected and whose sources are ready,
whatever the older ones have accessed so far. -/
def Obligations.VsyncOrders : Prop :=
  (∀ a s o, evalOperands 2 [.rw] [a] s = .ok o → Issuable s → Quiet s →
    (o.value 0).truncate 16 = s.cfg.regnum.vsync →
    ∃ t, exec (.vsync a) s = .next t ∧ OnlyVp (afterOperands o) t ∧ t.vp = { s.vp with taint := t.vp.taint } ∧
      t.vp.taint = { s.vp.taint with stored := [], synced := s.vp.taint.stored ++ s.vp.taint.synced }) ∧
  (∀ (s : State) j v k ej ev ek (x y : Spot) (l i : Fin 64), j < v → v < k → s.vp.queue[j]? = some ej →
    s.vp.queue[v]? = some ev → s.vp.queue[k]? = some ek → ev.op = .vsync →
    ((viewAt s j ej).openElems ej).getLsbD l = true →
    spotOf s (viewAt s j ej) ej l = some x → spotOf s (viewAt s k ek) ek i = some y → x.conflicts y = true →
    ∀ m part, runElems k m part s = runElems k (m &&& ~~~(1#64 <<< i.val)) part s) ∧
  (∀ (s : State) k ek sz ad (i : Fin 64), s.vp.queue[k]? = some ek → ek.op = .load sz ad →
    (∀ e ∈ s.vp.queue.take k, ∀ sz' ad', e.op ≠ .store sz' ad') → orderAllows s k (viewAt s k ek) ek i = true) ∧
  (∀ (s : State) k ek, s.vp.queue[k]? = some ek → (∀ e ∈ s.vp.queue.take k, e.op ≠ .vsync) →
    (∀ e ∈ s.vp.queue, e.fault = none) → s.vp.halted = false →
    let w := viewAt s k ek
    (∀ elems part, runEntry k elems part s = runElems k (elems.getD allElements) part (s.startTo k)) ∧
      ∀ i : Fin 64, (runnable s k w ek).getLsbD i =
        ((w.openElems ek).getLsbD i && w.knowsMask ek i && sourcesReady w ek i))

/-- MFVCR, MFVLR, MFVMRLO, MFVMRHI, and MFVP with their register numbers (R351 to R353, R358, R359): with nothing
unreported they deliver the register, zero-extended, to the destination, and change nothing else. -/
def Obligations.ReadControlRegisters : Prop :=
  ∀ a d i r s o,
    (i = .mfvcr a d ∧ r = .vcr ∨ i = .mfvlr a d ∧ r = .vlr ∨ i = .mfvmrlo a d ∧ r = .vmrlo ∨ i = .mfvmrhi a d ∧ r = .vmrhi ∨
      i = .mfvp a d ∧ ctrlOfRegnum s.cfg.regnum ((o.value 0).truncate 16) = some r) →
    evalOperands 2 [.rw, .wl] [a, d] s = .ok o → Issuable s → Quiet s → NothingUnreported s →
    let v : Nat := match r with
      | .vcr => s.vp.vcr.toNat
      | .vlr => s.vp.vlr.toNat
      | .vmrlo => s.vp.vmr.toNat % 2 ^ 32
      | .vmrhi => s.vp.vmr.toNat / 2 ^ 32
    ∃ t, exec i s = .next t ∧ t.vp = s.vp ∧ t.mem = s.mem ∧ t.cpu.pc = o.next ∧ t.cpu.psl = s.cpu.psl ∧
      (∀ n, o.dest 1 = .register n → n ≠ 15 → (t.cpu.readReg n 0).toNat = v) ∧
      (∀ pas, o.dest 1 = .memory pas → pas.Nodup → t.scalarRead pas = v) ∧
      (∀ n, o.dest 1 ≠ .register n → SameRegister n o.state t) ∧
      (∀ x, (∀ pas, o.dest 1 = .memory pas → x ∉ pas) → t.scalarByte x = s.scalarByte x)

/-- SYNC and MSYNC (R356, R357, R102), by their own constructors and as MFVP: with nothing unreported and nothing pending
they complete, write their destination, and change no other register and no byte that the scalar processor reads. SYNC
changes no memory; after MSYNC every earlier write of the scalar processor is visible to the vector processor. -/
def Obligations.SynchronisationCompletes : Prop :=
  ∀ a d i m s o,
    (i = .sync a d ∧ m = false ∨ i = .msync a d ∧ m = true ∨
      i = .mfvp a d ∧ mfvpOfRegnum s.cfg.regnum ((o.value 0).truncate 16) = some (if m then .msync else .sync)) →
    evalOperands 2 [.rw, .wl] [a, d] s = .ok o → Issuable s → Quiet s → NothingUnreported s → s.mem.wf = true →
    ∃ t, exec i s = .next t ∧ t.vp = s.vp ∧ t.cpu.pc = o.next ∧ t.cpu.psl = s.cpu.psl ∧
      (m = false → t.mem = s.mem) ∧ (m = true → ∀ x, t.mem.read x = s.scalarByte x) ∧
      (∀ n, o.dest 1 ≠ .register n → SameRegister n o.state t) ∧
      (∀ x, (∀ pas, o.dest 1 = .memory pas → x ∉ pas) → t.scalarByte x = s.scalarByte x)

/-- An MFVP that must report an arithmetic exception (R354 to R357), by its own constructor and as MFVP with its register
number: it takes the disabled fault itself, with S_VEN clear, its registers as before it, and its destination not written. -/
def Obligations.MfvpReportsArithmetic : Prop :=
  ∀ a d i fn s o,
    (i = .sync a d ∧ fn = .sync ∨ i = .msync a d ∧ fn = .msync ∨ i = .mfvcr a d ∧ fn = .read .vcr ∨
      i = .mfvmrlo a d ∧ fn = .read .vmrlo ∨ i = .mfvmrhi a d ∧ fn = .read .vmrhi ∨
      i = .mfvp a d ∧ mfvpOfRegnum s.cfg.regnum ((o.value 0).truncate 16) = some fn) →
    (fn = .sync ∧ s.vp.aexPending = true ∨ fn = .msync ∧ s.vp.taint.mem = true ∨
      fn = .read .vcr ∧ s.vp.taint.vcr = true ∨ fn = .read .vmrlo ∧ s.vp.taint.vmr.lo ≠ 0 ∨
      fn = .read .vmrhi ∧ s.vp.taint.vmr.hi ≠ 0) →
    evalOperands 2 [.rw, .wl] [a, d] s = .ok o → Issuable s → Quiet s →
    ∃ n, exec i s = takeDisabled { s with cpu := { s.cpu with venSeen := false }, draws := n }

/-- What element results depend on (R190, R191, R194 to R196), for every control-word instruction that accesses no memory, mask
bits of a compare being its elements; what VCR depends on is not said here. An element that the instruction
processes carries an unreported exception exactly where it raised one itself, where something that it reads carries one, or,
with masks, where its mask bit does; elements at and above VLR keep what they carried. That the model follows dependences
element by element is its choice (log entry 28). -/
def Obligations.DependencesOfResults : Prop :=
  ∀ c b x i op sps s o, (i, op, sps) ∈ lengthForms c b x → op.isMemory = false → Runs op sps o s →
    let depends := fun (t : State) (k : Fin 64) =>
      if op.writesMask then t.vp.taint.vmr.getLsbD k else t.vp.tainted (fieldC (controlWord o)) k
    ∃ t, exec i s = .next t ∧
      (∀ k, Active s o k → (depends t k = true ↔
        Raises op s o k ∨ SourcesDepend op s o k ∨
          ((controlWord o).getLsbD 15 = true ∧ s.vp.taint.vmr.getLsbD k = true))) ∧
      (∀ k : Fin 64, s.vp.vlr.toNat ≤ k.val → depends t k = depends s k) ∧
      ∀ r (k : Fin 64), op.writesMask = true ∨ r ≠ fieldC (controlWord o) → t.vp.tainted r k = s.vp.tainted r k

/-! ### Rules over many instructions -/

/-- A vector length of zero (R182): nothing is processed. No element, no mask bit, no memory, no exception; only IOTA
writes VCR, with zero. Of a gather whose source is its destination every other register keeps its value; R225 makes every
element of that one UNPREDICTABLE, and that this goes before R182 is the model's choice (log entry 55). -/
def Obligations.ZeroLength : Prop :=
  ∀ c b x i op sps s o, (i, op, sps) ∈ lengthForms c b x → Runs op sps o s → s.vp.vlr = 0 →
    ∃ t, exec i s = .next t ∧ OnlyVp (afterOperands o) t ∧
      (∀ r k, (∀ sz, op = .load sz .indexed → fieldB (controlWord o) = fieldC (controlWord o) →
        r ≠ fieldC (controlWord o)) → t.vp.elem r k = s.vp.elem r k) ∧
      t.vp.vmr = s.vp.vmr ∧ t.vp.vaer = s.vp.vaer ∧ t.vp.vpsr = s.vp.vpsr ∧
      t.vp.vcr = (if op = .iota then 0 else s.vp.vcr) ∧ t.vp.queue = []

/-- Every control-word instruction, sent while the vector processor does not run promptly, only joins the queue, with the
operand values, the access mode and the vector length of its issue, and the scalar processor goes on (R53, R58, R176, R189,
R201). Asynchronous method, room in the queue, and an oldest instruction that is not finished. What is queued starts in issue
order (R53): where an older one that is not complete without having to has not started, an instruction that has not does
nothing, or what it does with the older one started before it; and it does nothing while the older one is held up (R172, R413).
With a queue of one place that holds an instruction that has not started, the scalar processor waits until it has (R173), and
the instruction that is issued joins it. That it waits for no more than the start, with nothing executed, is the model's choice
(log entry 41). -/
def Obligations.IssueQueues : Prop :=
  ∀ c b x i op sps s o, (i, op, sps) ∈ lengthForms c b x → evalOperands 2 op.accesses sps s = .ok o → Issuable s →
    Acceptable op sps o s → (currentLength s.vp).toNat ≤ 64 → s.sched ≠ [] → s.cfg.isAsync = true →
    let e := { entryOf op o s with draw := o.state.draws }
    (queueFull s = false → Waits s.vp (s.vp.queue ++ [e]) →
      exec i s =
        .next { afterOperands o with vp := { s.vp with queue := s.vp.queue ++ [e] }, draws := o.state.draws + 512 }) ∧
    e.cntrl = controlWord o ∧ e.mode = currentMode s.cpu.psl ∧ e.len = currentLength s.vp ∧
    (∀ j k ej ek, j < k → s.vp.queue[j]? = some ej → s.vp.queue[k]? = some ek → ej.started = false →
      (viewAt s j ej).complete ej = false → ek.started = false → ∀ elems part,
      (heldUp s.vp j ej = true → runEntry k elems part s = .next s) ∧
      (runEntry k elems part s = .next s ∨
        runEntry k elems part s = runEntry k elems part (s.startTo k) ∧
          (s.startTo k).vp.queue[j]? = some { ej with started := true })) ∧
    (∀ e0, s.cfg.queueDepth = some 1 → s.vp.queue = [e0] → Waits s.vp [e0] → e0.fault = none → e0.started = false →
      s.vp.halted = false →
      exec i s = .next { afterOperands o with
        vp := { s.vp with queue := [{ e0 with started := true }, e] }, draws := o.state.draws + 512 })

/-- No vector instruction changes the PSL, the SCB base, memory management enable, the memory-management registers or
VSAR, but by taking an exception on itself: then the exception saves its own PC and PSL (R29, R160, R402, R440). -/
def Obligations.SystemStateKept : Prop :=
  ∀ i s t, exec i s = .next t →
    t.cpu.scbb = s.cpu.scbb ∧ t.cpu.mapen = s.cpu.mapen ∧ t.cpu.mm = s.cpu.mm ∧ t.vp.mm = s.vp.mm ∧
    t.vp.vsar = s.vp.vsar ∧
    (t.cpu.psl = s.cpu.psl ∨
      ∃ e u, takeException e u = .next t ∧ u.cpu.pc = s.cpu.pc ∧ u.cpu.psl = s.cpu.psl)

/-- The vector processor disabled fault (R403, R426): any vector instruction issued with S_VEN clear takes it, with the
PC of the instruction; no vector register, control register or IPR changes, and nothing is unreported any more, nor in what
VPSR<STS> has stored. From then on, until S_VEN is set, an MFPR from VAER with BSY clear reports what is recorded later
(MfprStatus). -/
def Obligations.DisabledFault : Prop :=
  ∀ (i : Instr) s o, evalOperands 2 i.accesses i.operands s = .ok o → s.cfg.vpPresent = true → s.cpu.venSeen = false →
    exec i s = takeException .disabled { s with
      cpu := { s.cpu with afterDisabled := true }
      vp := { s.vp with
        aexPending := false, aexLate := false, taint := {},
        queue := s.vp.queue.map QEntry.forget }
      saved := s.saved.map fun r => { r with queue := r.queue.map QEntry.forget } }

/-- No vector processor (R387, R404): every vector instruction takes the reserved-instruction fault, whatever its operands
but for exceptions on them, and nothing else changes before it. MTPR to VPSR has no effect, whatever is written; MFPR from
VPSR writes zero to its destination and MFPR from VMAC some value, and no other register changes. (That MTPR to VPSR comes
before the test for bad accesses: log entry 49. MTPR to VMAC is a bad access: BadIprAccesses.) -/
def Obligations.NoVectorProcessor : Prop :=
  (∀ (i : Instr) s o r, s.cfg.vpPresent = false →
    evalOperands 2 i.accesses i.operands s = .ok o ∨ evalOperands 2 i.accesses i.operands s = .refused r →
    exec i s = takeException .reservedInstr s) ∧
  (∀ a b s o, evalOperands 1 [.rl, .rl] [a, b] s = .ok o → s.mode = 0 → s.cfg.vpPresent = false →
    (o.value 1).lo = 0x90 → ∃ t, execMtpr a b s = .next t ∧ t.vp = s.vp ∧ t.mem = s.mem ∧ t.cpu.pc = o.next ∧
      t.cpu.venSeen = s.cpu.venSeen ∧ ∀ n, SameRegister n o.state t) ∧
  (∀ a d s o, evalOperands 1 [.rl, .wl] [a, d] s = .ok o → s.mode = 0 → s.cfg.vpPresent = false →
    (o.value 0).lo = 0x90 ∨ (o.value 0).lo = 0x92 →
    ∃ t, execMfpr a d s = .next t ∧ t.vp = s.vp ∧ t.mem = s.mem ∧ t.cpu.pc = o.next ∧
      (∀ n, (o.value 0).lo = 0x90 → o.dest 1 = .register n → n ≠ 15 → t.cpu.readReg n 0 = 0) ∧
      (∀ n, o.dest 1 ≠ .register n → SameRegister n o.state t))

/-- A pending asynchronous memory-management exception (R172, R414): the next vector instruction takes the fault, PMF is
cleared, MF stays, the fault parameter has VAS set, and the instruction is not sent. -/
def Obligations.PendingFaultReported : Prop :=
  ∀ (i : Instr) s o f, evalOperands 2 i.accesses i.operands s = .ok o → s.cfg.vpPresent = true →
    s.cpu.venSeen = true → s.cfg.isAsync = true → s.vp.pmf = true → s.vp.pendingMm = some f →
    ∃ u g, exec i s = takeException (.mm g) u ∧
      u = { s with vp := { s.vp with vpsr := s.vp.vpsr &&& ~~~0x40, pendingMm := none } } ∧
      g.kind = f.kind ∧ g.va = f.va ∧ g.param = f.param ||| paramBit s.cfg.faultBits.vasBit true

/-- Taking an exception (R403, R410, R411): PC and PSL, and for a memory-management fault its parameter and address below
them, are on the stack, as the scalar processor reads it; general registers, memory outside the frame and the vector
processor are as before. Presumed (log entry 13), in no rule of the spec: kernel mode and the previous mode in the PSL, which
stack is used, and how the handler's address comes from SCBB. -/
def Obligations.TakingAnException : Prop :=
  ∀ e s pas, let frame := exceptionFrame e s
    let k := exceptionStack s.cpu.psl
    let sp := s.cpu.sps[k] - BitVec.ofNat 32 (4 * frame.length)
    scalarTranslateBytes s 0 true sp (4 * frame.length) = .ok pas → pas.Nodup →
    ∃ t, takeException e s = .next t ∧ t.cpu.sps[k] = sp ∧ t.scalarRead pas = longsValue frame ∧
      (∃ rest, frame = rest ++ [s.cpu.pc, s.cpu.psl] ∧ (∀ f, e = .mm f → rest = [f.param, f.va])) ∧
      currentMode t.cpu.psl = 0 ∧ t.cpu.psl.extractLsb' 22 2 = currentMode s.cpu.psl ∧
      t.cpu.pc = handlerAddress e s ∧ t.cpu.gpr = s.cpu.gpr ∧ t.vp = s.vp ∧ t.mem = s.mem ∧
      (∀ j : Fin 5, j ≠ k → t.cpu.sps[j] = s.cpu.sps[j]) ∧
      ∀ a, a ∉ pas → t.scalarByte a = s.scalarByte a

/-- An exception without parameters followed by REI returns to the same PC and PSL, with every stack pointer and general
register as before and the vector processor untouched (R435, log entry 14). -/
def Obligations.ExceptionThenRei : Prop :=
  ∀ e s t pas, (∀ f, e ≠ .mm f) → takeException e s = .next t →
    let sp := s.cpu.sps[exceptionStack s.cpu.psl] - 8
    scalarTranslateBytes s 0 true sp 8 = .ok pas → scalarTranslateBytes t 0 false sp 8 = .ok pas → pas.Nodup →
    ∃ u, execRei t = .next u ∧ u.cpu.pc = s.cpu.pc ∧ u.cpu.psl = s.cpu.psl ∧ u.cpu.sps = s.cpu.sps ∧
      u.cpu.gpr = s.cpu.gpr ∧ u.vp = s.vp ∧ u.cpu.venSeen = s.cpu.venSeen

/-- What the model refuses because the spec calls the results unpredictable and tells a model to refuse (R25, R141, R142,
R145, R146, R233, R311, R336, R366): in every format, a control word bit that should be zero, a reserved compare or convert
function, a short literal as floating scalar operand, an immediate base, and nothing else of these instructions; a vector
length above 64, a register number that is not assigned, memory management disabled (R93). That nothing else is refused rests
on two choices of the model: every short literal of VSMERGE, whose floating spellings R145 names, is an integer and is
accepted (log entry 19), and bit 13 of a floating compare's control word is accepted (log entry 48). -/
def Obligations.RefusedByTheSpec : Prop :=
  (∀ c b x i op sps s o, (i, op, sps) ∈ lengthForms c b x → evalOperands 2 op.accesses sps s = .ok o → Issuable s →
    (Meaningless op sps (controlWord o) →
      ∃ r ∈ [Refusal.controlWord, .reservedCompare, .reservedConvert, .shortLiteralFloat, .immediateBase],
        exec i s = .refused r) ∧
    (¬ Meaningless op sps (controlWord o) → Acceptable op sps o s)) ∧
  (∀ c b x i op sps s o, (i, op, sps) ∈ lengthForms c b x → evalOperands 2 op.accesses sps s = .ok o → Issuable s →
    Acceptable op sps o s → (∀ e ∈ s.vp.queue, e.op ≠ .mtvp .vlr) → 64 < s.vp.vlr.toNat →
    exec i s = .refused .lengthAbove64) ∧
  (∀ a b s o, evalOperands 2 [.rw, .rl] [a, b] s = .ok o → Issuable s →
    ctrlOfRegnum s.cfg.regnum ((o.value 0).truncate 16) = none → exec (.mtvp a b) s = .refused .reservedRegnum) ∧
  (∀ a b s o, evalOperands 2 [.rw, .wl] [a, b] s = .ok o → Issuable s →
    mfvpOfRegnum s.cfg.regnum ((o.value 0).truncate 16) = none → exec (.mfvp a b) s = .refused .reservedRegnum) ∧
  (∀ a s o, evalOperands 2 [.rw] [a] s = .ok o → Issuable s →
    (o.value 0).truncate 16 ≠ s.cfg.regnum.vsync → exec (.vsync a) s = .refused .reservedRegnum) ∧
  (∀ (i : Instr) s o, evalOperands 2 i.accesses i.operands s = .ok o → s.cfg.vpPresent = true → s.cpu.venSeen = true →
    s.vp.pmf = false → s.cpu.mapen = false → exec i s = .refused .mmDisabled)

/-- Two refusals of what the spec tells a model to refuse. A store over its own operands (R224, R147): where every active
element's reference passes and one overlaps a byte the operands were read from. Fetching an instruction whose first
byte a vector store wrote (R118). -/
def Obligations.RefusedOverwrites : Prop :=
  (∀ c b x i sz ad sps s o pa, (i, sz, ad, sps) ∈ storeForms c b x → Runs (.store sz ad) sps o s →
    References true sz ad (entryOf (.store sz ad) o s) s pa →
    (∃ k, Active s o k ∧ ∃ g ∈ o.guards, pa k ≤ g ∧ g < pa k + sz.bytes) →
    exec i s = .refused .storeOverlapsOperands) ∧
  (∀ s s' pa, advance s = .next s' → scalarTranslate s' s'.mode false s'.cpu.pc = .ok pa → pa ∈ s'.vstores →
    step s = .refused .codeOverwritten)

/-! ### The processor registers of the vector processor -/

/-- MTPR to VPSR with VEN, MF, PMF, IMP and IVO bits only (R371, R372, R377, R379): bits written with one among MF, PMF, IMP
and IVO are cleared, VEN is bit 0 of the source, every other bit of VPSR keeps its value; clearing PMF discards what it
announced, and after clearing MF nothing is suspended any more, so that nothing is retried. With MF zero in the source, or
nothing queued, every other vector register keeps its value. N and Z follow the source, V is clear, C is kept (R370). S_VEN
does not follow yet (R382). -/
def Obligations.MtprVpsr : Prop :=
  ∀ a b s o, evalOperands 1 [.rl, .rl] [a, b] s = .ok o → s.mode = 0 → (o.value 1).lo = 0x90 →
    s.cfg.vpPresent = true → s.vp.flushOnEnable = false →
    let v := (o.value 0).lo
    v &&& ~~~0x03000061 = 0 →
    ∃ t, execMtpr a b s = .next t ∧
      t.vp.vpsr = ((s.vp.vpsr &&& ~~~v) &&& ~~~1) ||| (v &&& 1) ∧
      t.vp.pendingMm = (if v.getLsbD 6 then none else s.vp.pendingMm) ∧
      (v.getLsbD 5 = true → s.vp.mf = true → ∀ e ∈ t.vp.queue, e.suspended = false) ∧
      (v.getLsbD 5 = false ∨ s.vp.queue = [] →
        t.vp = { s.vp with
          vpsr := t.vp.vpsr, pendingMm := t.vp.pendingMm, impUnseen := s.vp.impUnseen && !v.getLsbD 0 }) ∧
      t.mem = s.mem ∧ t.cpu.pc = o.next ∧ t.cpu.venSeen = s.cpu.venSeen ∧ t.cpu.wbuf = s.cpu.wbuf ∧
      (∀ n, SameRegister n o.state t) ∧
      t.cpu.psl.getLsbD 3 = v.msb ∧ t.cpu.psl.getLsbD 2 = decide (v = 0) ∧ t.cpu.psl.getLsbD 1 = false ∧
      (∀ n, n ≠ 1 → n ≠ 2 → n ≠ 3 → t.cpu.psl.getLsbD n = s.cpu.psl.getLsbD n)

/-- MTPR to VPSR with RST, alone or with VEN (R373): VPSR is VEN alone, VAER is zero (at once, as the vector processor runs
promptly: log entry 52), nothing is pending or suspended; vector registers, VLR, VMR, VCR and VSAR keep their values where
nothing was pending, and where a load was suspended every other register than its destination does. A MTVMRLO that is queued
behind that load always takes effect: that is the model's choice, for which an MTVP takes its place in issue order without a
start (log entry 2) and what a discarded instruction has done stays done (log entry 52). While BSY is set the model refuses
it. -/
def Obligations.MtprVpsrReset : Prop :=
  ∀ a b s o, evalOperands 1 [.rl, .rl] [a, b] s = .ok o → s.mode = 0 → (o.value 1).lo = 0x90 →
    s.cfg.vpPresent = true → (o.value 0).lo = 2 ∨ (o.value 0).lo = 3 → s.sched = [] →
    (busy s = true → execMtpr a b s = .refused .resetWhileBusy) ∧
    (busy s = false →
      ∃ t, execMtpr a b s = .next t ∧ t.vp.vpsr = (o.value 0).lo &&& 1 ∧ t.vp.vaer = 0 ∧ t.vp.queue = [] ∧
        t.vp.pendingMm = none ∧ t.vp.aexPending = false ∧ t.vp.vsar = s.vp.vsar ∧ t.vp.tb = s.vp.tb ∧ t.mem = s.mem ∧
        (s.vp.queue = [] → t.vp.v = s.vp.v ∧ t.vp.vlr = s.vp.vlr ∧ t.vp.vmr = s.vp.vmr ∧ t.vp.vcr = s.vp.vcr) ∧
        (∀ e sz ad, s.vp.queue = [e] → e.op = .load sz ad →
          t.vp.vlr = s.vp.vlr ∧ t.vp.vmr = s.vp.vmr ∧ t.vp.vcr = s.vp.vcr ∧
          ∀ r k, r ≠ fieldC e.cntrl → t.vp.elem r k = s.vp.elem r k) ∧
        (∀ e m sz ad, s.vp.queue = [e, m] → e.op = .load sz ad → m.op = .mtvp .vmrlo →
          t.vp.vmr.lo = m.scalar.lo ∧ t.vp.vmr.hi = s.vp.vmr.hi))

/-- MTPR to VPSR with AEX (R378): AEX and all of VAER are cleared, VEN is as written, every other bit of VPSR and every
register, VSAR and the general registers among them, keeps its value. Where the vector processor does not run promptly the
old bits of VAER may still show until an MFPR from VPSR, and the exceptions recorded so far be reported (R382); that this does
not touch what is recorded after the MTPR is the model's choice (log entry 52). -/
def Obligations.MtprVpsrClearsAex : Prop :=
  ∀ a b s o, evalOperands 1 [.rl, .rl] [a, b] s = .ok o → s.mode = 0 → (o.value 1).lo = 0x90 →
    s.cfg.vpPresent = true → s.vp.flushOnEnable = false → (o.value 0).lo = 0x80 ∨ (o.value 0).lo = 0x81 →
    ∃ t, execMtpr a b s = .next t ∧
      t.vp.vpsr = (s.vp.vpsr &&& ~~~0x81) ||| ((o.value 0).lo &&& 1) ∧ t.vp.v = s.vp.v ∧ t.vp.vlr = s.vp.vlr ∧
      t.vp.vmr = s.vp.vmr ∧ t.vp.vcr = s.vp.vcr ∧ t.vp.vsar = s.vp.vsar ∧ t.mem = s.mem ∧
      (∀ n, SameRegister n o.state t) ∧
      t.vp.vaer = 0 ∧ t.vp.aexPending = false ∧ t.vp.queue = s.vp.queue.map QEntry.forget ∧
      (t.saved = s.saved.map fun r => { r with queue := r.queue.map QEntry.forget }) ∧
      (s.sched = [] → t.vp.vaerOld = 0 ∧ t.vp.aexLate = false) ∧
      (s.sched ≠ [] → t.vp.vaerOld = s.vp.vaer ||| s.vp.vaerOld ∧
        t.vp.aexLate = (s.vp.aexPending || s.vp.aexLate) ∧
        t.clearNow.vp = { t.vp with vaerOld := 0, aexLate := false })

/-- MFPR from VPSR and from VAER (R381, R383), with no hardware error to report and no earlier MTPR to VPSR to wait for: the
destination gets the register, BSY computed and every reserved bit zero (R36, R40, R43); reading VPSR brings S_VEN up to date
and changes no bit of VPSR; N and Z follow the value, V is clear, C is kept (R370). What is recorded is reported, so that
nothing depends on it any more, by a read of VPSR with AEX set and S_VEN clear, and by one of VAER after a disabled fault with
BSY clear; else nothing of the vector processor changes (R426). -/
def Obligations.MfprStatus : Prop :=
  ∀ a d s o reg, evalOperands 1 [.rl, .wl] [a, d] s = .ok o → s.mode = 0 → (o.value 0).lo = reg →
    s.cfg.vpPresent = true → s.vp.hwOp = false → s.vp.hwMem = false ∨ s.vp.halted = false → s.vp.vaerOld = 0 → s.vp.aexLate = false → s.vp.storing = [] →
    reg = 0x90 ∨ reg = 0x91 →
    ∃ t v, execMfpr a d s = .next t ∧
      (reg = 0x90 → v.getLsbD 31 = busy s ∧ v &&& 0x7FFFFFFF = s.vp.vpsr &&& 0x030000E1 ∧
        t.cpu.venSeen = s.vp.vpsr.getLsbD 0) ∧
      (reg = 0x91 → v = s.vp.vaer &&& 0xFFFF002F ∧ t.cpu.venSeen = s.cpu.venSeen) ∧
      (∀ n, o.dest 1 = .register n → n ≠ 15 → t.cpu.readReg n 0 = v) ∧
      (∀ pas, o.dest 1 = .memory pas → pas.Nodup → t.scalarRead pas = v.toNat) ∧
      (reg = 0x90 → t.vp = if s.vp.vpsr.getLsbD 7 && !s.vp.vpsr.getLsbD 0 then s.vp.forget else s.vp) ∧
      (reg = 0x91 → t.vp = if s.cpu.afterDisabled && !busy s then s.vp.forget else s.vp) ∧ t.vp.vpsr = s.vp.vpsr ∧ t.vp.vaer = s.vp.vaer ∧ t.vp.v = s.vp.v ∧
      t.mem = s.mem ∧
      t.cpu.pc = o.next ∧ t.cpu.psl.getLsbD 3 = v.msb ∧ t.cpu.psl.getLsbD 2 = decide (v = 0) ∧
      t.cpu.psl.getLsbD 1 = false ∧ (∀ n, n ≠ 1 → n ≠ 2 → n ≠ 3 → t.cpu.psl.getLsbD n = s.cpu.psl.getLsbD n)

/-- Bad accesses (R36, R40, R43, R376, R386, R389, R391): the reserved-operand fault, nothing else changed, or the refusal
where the implementation leaves them undefined; a free value that an operand has been given is not given again (R12). MTPR to
VAER; to VSAR with low bits set or under the synchronous method; to VPSR with a one in a reserved bit, <4>, <23:8> or
<30:26>, or with a setting that Table 10-2 does not list; to VTBIA with a nonzero value; MFPR from VTBIA, or from VSAR under
the synchronous method. The spec's decisions D7 and D12 (log entry 51), in no rule's own words: MTPR to VMAC, and registers 95
to 9F hex. -/
def Obligations.BadIprAccesses : Prop :=
  ∀ s, s.mode = 0 →
    let bad := fun o : Operands =>
      match s.cfg.badIprAccess with
      | .rsvdOperandFault => takeException .reservedOperand { s with draws := o.state.draws }
      | .undefined => .refused .badIprAccess
    (∀ a b o, evalOperands 1 [.rl, .rl] [a, b] s = .ok o →
      let v := (o.value 0).lo
      let n := (o.value 1).lo.toNat
      (n = 0x91 ∨ n = 0x92 ∨ (0x95 ≤ n ∧ n ≤ 0x9F) ∨ (n = 0x94 ∧ (v.toNat % 8 ≠ 0 ∨ s.cfg.isAsync = false)) ∨
        (n = 0x90 ∧ s.cfg.vpPresent = true ∧ v.toNat % 16 ∈ [5, 6, 7, 10, 11, 12, 13, 14, 15]) ∨
        (n = 0x90 ∧ s.cfg.vpPresent = true ∧
          ∃ k, (k = 4 ∨ (8 ≤ k ∧ k ≤ 23) ∨ (26 ≤ k ∧ k ≤ 30)) ∧ v.getLsbD k = true) ∨
        (n = 0x93 ∧ s.cfg.vpPresent = true ∧ s.cfg.vectorTb = .own ∧ v ≠ 0)) →
      execMtpr a b s = bad o) ∧
    (∀ a d o, evalOperands 1 [.rl, .wl] [a, d] s = .ok o →
      let n := (o.value 0).lo.toNat
      (n = 0x93 ∨ (0x95 ≤ n ∧ n ≤ 0x9F) ∨ (n = 0x94 ∧ s.cfg.isAsync = false)) →
      execMfpr a d s = bad o)

/-- MTPR and MFPR are privileged (R370, R440; the encoding and the fault are PRESUMED, log entry 42): in any mode but
kernel they take the reserved-instruction fault, nothing else changed. No vector instruction is: DisabledFault and the
completion statements hold in every mode. -/
def Obligations.IprPrivilege : Prop :=
  (∀ a b s o, evalOperands 1 [.rl, .rl] [a, b] s = .ok o → s.mode ≠ 0 →
    execMtpr a b s = takeException .reservedInstr s) ∧
  (∀ a d s o, evalOperands 1 [.rl, .wl] [a, d] s = .ok o → s.mode ≠ 0 →
    execMfpr a d s = takeException .reservedInstr s)

/-- MTPR of zero to VTBIA (R384, R387, R388): the vector translation buffer is empty afterwards, whether or not the vector
processor is enabled, and what is pending may still use what it held; it does nothing where the buffer is shared or there is
no vector processor. MTPR to TBIA and TBIS (R115, R116): every translation, or those of the address, are gone, for what is
pending too; under the asynchronous method what is pending translates again what a SYNC had checked (the model's choice, log
entry 11), under the synchronous method not (R174). That TBIA is register 39 hex and TBIS 3A hex is presumed (log entry 12). -/
def Obligations.TranslationBufferInvalidate : Prop :=
  ∀ a b s o, evalOperands 1 [.rl, .rl] [a, b] s = .ok o → s.mode = 0 →
    ((o.value 1).lo = 0x93 → (o.value 0).lo = 0 → s.cfg.vpPresent = true → s.cfg.vectorTb = .own →
      s.cfg.hasVtbia = true → ∃ t, execMtpr a b s = .next t ∧ t.mem = s.mem ∧
        t.vp = { s.vp with tb := [], queue := s.vp.queue.map fun e => { e with tb := s.vp.tb ++ e.tb } }) ∧
    ((o.value 1).lo = 0x93 → s.cfg.vpPresent = false ∨ s.cfg.vectorTb = .shared →
      ∃ t, execMtpr a b s = .next t ∧ t.vp = s.vp ∧ t.mem = s.mem) ∧
    ((o.value 1).lo = 0x39 → s.cfg.iprs = {} → ∃ t, execMtpr a b s = .next t ∧ t.mem = s.mem ∧
        t.vp = { s.vp with tb := [], queue := s.vp.queue.map fun e => { e with
          tb := [], checked := if s.cfg.isAsync then none else e.checked } }) ∧
    ((o.value 1).lo = 0x3A → s.cfg.iprs = {} → ∃ t, execMtpr a b s = .next t ∧ t.mem = s.mem ∧
        let kept := fun rows : List MapRow =>
          rows.filter fun r => decide ((o.value 0).lo.toNat < r.va ∨ r.va + r.len ≤ (o.value 0).lo.toNat)
        t.vp = { s.vp with tb := kept s.vp.tb, queue := s.vp.queue.map fun e => { e with
          tb := kept e.tb, checked := if s.cfg.isAsync then none else e.checked } })

/-- VSAR under the asynchronous method (R49, R385): MTPR of a quadword-aligned value writes it, MFPR reads it, and no
other vector state changes. -/
def Obligations.StateAddress : Prop :=
  (∀ a b s o, evalOperands 1 [.rl, .rl] [a, b] s = .ok o → s.mode = 0 → (o.value 1).lo = 0x94 →
    s.cfg.vpPresent = true → s.cfg.isAsync = true → (o.value 0).lo.toNat % 8 = 0 →
    ∃ t, execMtpr a b s = .next t ∧ t.vp = { s.vp with vsar := (o.value 0).lo } ∧ t.mem = s.mem ∧ t.cpu.pc = o.next) ∧
  (∀ a d s o, evalOperands 1 [.rl, .wl] [a, d] s = .ok o → s.mode = 0 → (o.value 0).lo = 0x94 →
    s.cfg.vpPresent = true → s.cfg.isAsync = true →
    ∃ t, execMfpr a d s = .next t ∧ t.vp = s.vp ∧ t.mem = s.mem ∧ t.cpu.pc = o.next ∧
      ∀ n, o.dest 1 = .register n → n ≠ 15 → t.cpu.readReg n 0 = s.vp.vsar)

/-- MTPR to a memory-management register (R113, R116; the register numbers are PRESUMED, log entry 12): the scalar
processor's register and the vector processor's copy both get the value, whether or not the vector processor is
enabled. -/
def Obligations.MemoryManagementCopies : Prop :=
  ∀ a b s o, evalOperands 1 [.rl, .rl] [a, b] s = .ok o → s.mode = 0 → s.cfg.iprs = {} →
    let v := (o.value 0).lo
    let n := (o.value 1).lo.toNat
    ∀ get : MmRegs → Long,
      (n = 8 ∧ get = MmRegs.p0br ∨ n = 9 ∧ get = MmRegs.p0lr ∨ n = 10 ∧ get = MmRegs.p1br ∨ n = 11 ∧ get = MmRegs.p1lr ∨
        n = 12 ∧ get = MmRegs.sbr ∨ n = 13 ∧ get = MmRegs.slr) →
      ∃ t, execMtpr a b s = .next t ∧ get t.cpu.mm = v ∧ get t.vp.mm = v ∧ t.vp = { s.vp with mm := t.vp.mm } ∧
        t.mem = s.mem ∧ t.cpu.pc = o.next

/-- MFPR from VMAC (R390, R102), with nothing queued and no hardware error to report: it completes whatever is unreported,
every earlier scalar write is visible to the vector processor and every vector write to the scalar processor. Where VPSR<IMP>
has shown a hardware error of a memory instruction before, the next vector instruction finds S_VEN clear (R431). That of two
writes to one location which nothing orders the scalar one comes last is the model's choice (log entry 4). -/
def Obligations.ActivityCheck : Prop :=
  ∀ a d s o, evalOperands 1 [.rl, .wl] [a, d] s = .ok o → s.mode = 0 → (o.value 0).lo = 0x92 →
    s.cfg.vpPresent = true → s.vp.queue = [] → s.vp.hwMem = false → s.mem.wf = true →
    ∃ t, execMfpr a d s = .next t ∧ t.vp = { s.vp with vbuf := [], impUnseen := false } ∧ t.cpu.pc = o.next ∧
      t.cpu.venSeen = (s.cpu.venSeen && !s.vp.impUnseen) ∧
      ∀ x, t.mem.read x = (lastCell s.cpu.wbuf.flatten x).getD (s.vectorByte x)

/-- Storing and reloading the state of a suspended vector processor (R374, R375), asynchronous method, prompt execution: STS
changes memory only in the area at VSAR, disables the vector processor as it was written, and keeps everything else; each
pending instruction is stored with the registers it is to read, so that later writes do not reach them (R56, R188); with the
stored bytes in the area, RLD brings back the pending instructions, with free values of their own (R12), the exception that is
to be reported, PMF and MF. What the bytes are is unarchitected, and that the state comes back by them, without translations
of an invalidated buffer, is the model's choice (log entry 32). -/
def Obligations.StateSaveAndReload : Prop :=
  ∀ a b s o, evalOperands 1 [.rl, .rl] [a, b] s = .ok o → s.mode = 0 → (o.value 1).lo = 0x90 →
    s.cfg.vpPresent = true → s.cfg.isAsync = true → s.sched = [] → s.vp.vbuf = [] →
    ((o.value 0).lo = 4 → ∀ pas, stateArea s true s.cfg.vsarStateLen = .ok pas → pas.Nodup → s.mem.wf = true →
      ∃ t image, execMtpr a b s = .next t ∧ t.vp = { s.vp with vpsr := s.vp.vpsr &&& ~~~1 } ∧
        t.saved = ⟨image, savedQueue s, s.vp.pendingMm, s.vp.mf, s.vp.pmf⟩ :: s.saved ∧
        (∀ k e, s.vp.queue[k]? = some e → ∃ e', (savedQueue s)[k]? = some e' ∧
          e' = { e with tb := [], checked := none, spoil := 0, copy := e'.copy } ∧
          ∀ p : Vp,
            (∀ r (i : Fin 64), (viewAt s k e).hasElem r i = true → (e'.sees p).elem r i = (viewAt s k e).p.elem r i) ∧
            (∀ i, (viewAt s k e).ready.vmr.getLsbD i = true →
              (e'.sees p).vmr.getLsbD i = (viewAt s k e).p.vmr.getLsbD i)) ∧
        pas.map t.mem.read = image ∧ ∀ x, x ∉ pas → t.mem.read x = s.mem.read x) ∧
    ((o.value 0).lo = 8 → ∀ pas r rest, stateArea s false s.cfg.vsarStateLen = .ok pas → s.saved = r :: rest →
      pas.map s.mem.read = r.image → s.vp.queue = [] → s.vp.vpsr = 0 → Waits s.vp r.queue →
      ∃ t, execMtpr a b s = .next t ∧ t.mem = s.mem ∧
        t.vp = { s.vp with
          queue := r.queue.mapIdx fun i e => { e with reload := 1, draw := o.state.draws + 512 * i }
          pendingMm := r.pendingMm, vpsr := t.vp.vpsr } ∧ t.draws = o.state.draws + 512 * r.queue.length ∧
        t.vp.mf = r.mf ∧ t.vp.pmf = r.pmf ∧ t.vp.ven = false)

/-- Hardware errors (R423, R430 to R432). With nothing queued, one that a memory instruction met is reported at MFPR from
VMAC, one that another instruction met at the MFPR from VPSR that reads BSY clear. Of either kind, one that has stopped execution
is reported at MFPR from VMAC where it has stopped a memory instruction, and at MFPR from VPSR where it has stopped another, so
that neither shows as finished what is not. Through VPSR<IMP>, which is set while VEN
is cleared, so that the next vector instruction takes the disabled fault, or by a machine check on the MFPR. At the next
enable the queue is empty: where it held one instruction that accesses no memory and had executed nothing, the elements, mask
bits and VCR that it was to write keep their values and what these depend on (R354). That one report stands for every error
met, and that a machine check comes upon the MFPR and not upon the instruction behind it, are the model's choices (log entry
34). -/
def Obligations.HardwareErrors : Prop :=
  (∀ a d s o, evalOperands 1 [.rl, .wl] [a, d] s = .ok o → s.mode = 0 → s.cfg.vpPresent = true →
    (s.vp.queue = [] ∧
        (((o.value 0).lo = 0x92 ∧ s.vp.hwMem = true) ∨ ((o.value 0).lo = 0x90 ∧ s.vp.hwOp = true))) ∨
      (s.vp.halted = true ∧ (s.vp.hwMem = true ∨ s.vp.hwOp = true) ∧
        ∃ (e : QEntry) (k : Fin 64), s.vp.queue = [e] ∧ e.fault = none ∧ e.copy = none ∧ e.len.toNat ≤ 64 ∧
          e.isActive s.vp.vmr k = true ∧ e.done.getLsbD k = false ∧ e.left.getLsbD k = false ∧
          (((o.value 0).lo = 0x92 ∧ e.op.isMemory = true) ∨ ((o.value 0).lo = 0x90 ∧ e.op.isMemory = false))) →
    (s.cfg.hwErrorReport = .imp → s.cfg.implementsImp = true →
      ∃ t, execMfpr a d s = .next t ∧ t.vp.vpsr = (s.vp.vpsr ||| 0x01000000) &&& ~~~1 ∧ t.cpu.venSeen = false ∧
        t.vp.hwMem = false ∧ t.vp.hwOp = false ∧ t.vp.flushOnEnable = true ∧
        (∀ n, (o.value 0).lo = 0x90 → o.dest 1 = .register n → n ≠ 15 →
          (t.cpu.readReg n 0).getLsbD 24 = true ∧ (t.cpu.readReg n 0).getLsbD 31 = false ∧
            (t.cpu.readReg n 0).getLsbD 0 = false)) ∧
    (s.cfg.hwErrorReport = .machineCheck →
      ∃ u, execMfpr a d s = takeException .machineCheck u ∧ u.cpu.pc = s.cpu.pc ∧ u.cpu.psl = s.cpu.psl ∧
        u.cpu.gpr = s.cpu.gpr ∧ u.vp.vpsr = s.vp.vpsr ∧ u.vp.hwMem = false ∧ u.vp.hwOp = false)) ∧
  (∀ a b s o, evalOperands 1 [.rl, .rl] [a, b] s = .ok o → s.mode = 0 → s.cfg.vpPresent = true →
    (o.value 1).lo = 0x90 → (o.value 0).lo = 1 → s.vp.flushOnEnable = true →
    ∃ t, execMtpr a b s = .next t ∧ t.vp.ven = true ∧ t.vp.queue = [] ∧ t.vp.flushOnEnable = false ∧
      t.vp.halted = false ∧
      ∀ (e : QEntry) (k : Fin 64), s.vp.queue = [e] → e.op.usesLength = true → e.op.isMemory = false → e.copy = none →
        e.done = 0 → e.count = none → e.isActive s.vp.vmr k = true →
        (∀ r, t.vp.elem r k = s.vp.elem r k ∧ t.vp.tainted r k = s.vp.tainted r k) ∧
        t.vp.vmr.getLsbD k = s.vp.vmr.getLsbD k ∧ t.vp.taint.vmr.getLsbD k = s.vp.taint.vmr.getLsbD k ∧
        t.vp.vcr = s.vp.vcr ∧ t.vp.taint.vcr = s.vp.taint.vcr ∧ t.vp.taint.mem = s.vp.taint.mem)

/-! ### Floating arithmetic -/

/-- Rounding (R275, R276): what an exact value is encoded as is the nearest value of the format, and of two equally near
the one of the larger magnitude. -/
def Obligations.RoundingToNearest : Prop :=
  ∀ (fmt : FloatFmt) (x : Ratio) exc q, 0 < x.den → fmt.encode x exc = .ok q → q ≠ 0 → ∀ y,
    |(fmt.value q).toRat - x.toRat| ≤ |(fmt.value y).toRat - x.toRat| ∧
    (|(fmt.value q).toRat - x.toRat| = |(fmt.value y).toRat - x.toRat| →
      |(fmt.value y).toRat| ≤ |(fmt.value q).toRat|)

/-- The arithmetic of FArith (R276): sum, difference, product and quotient are the exact rational ones, and a nonzero exact
value that rounds to a magnitude too large for the format overflows, one that rounds to a magnitude too small underflows,
exactly there: an exception for overflow, for underflow with EXC, zero for underflow without. Where rounding to nearest ends
is general knowledge (R275, log entry 25). -/
def Obligations.ExactResultsAndRange : Prop :=
  (∀ op a b, 0 < a.den → 0 < b.den → (op = .div → b.num ≠ 0) →
    0 < (Ratio.op op a b).den ∧
    (Ratio.op op a b).toRat =
      match op with
      | .add => a.toRat + b.toRat
      | .sub => a.toRat - b.toRat
      | .mul => a.toRat * b.toRat
      | .div => a.toRat / b.toRat) ∧
  (∀ (fmt : FloatFmt) (x : Ratio) exc, 0 < x.den → x.num ≠ 0 →
    let half : ℚ := 1 - (2 : ℚ) ^ (-((fmt.prec : ℤ) + 1))
    let high : ℚ := (2 : ℚ) ^ ((fmt.maxExp : ℤ) - (fmt.bias : ℤ)) * half
    let low : ℚ := (2 : ℚ) ^ (-(fmt.bias : ℤ)) * half
    (fmt.encode x exc = .error AexSet.overflow ↔ high ≤ |x.toRat|) ∧
    (exc = true → (fmt.encode x exc = .error AexSet.underflow ↔ |x.toRat| < low)) ∧
    (exc = false → |x.toRat| < low → fmt.encode x exc = .ok 0) ∧
    (low ≤ |x.toRat| → |x.toRat| < high → ∃ q, fmt.encode x exc = .ok q ∧ q ≠ 0))

/-- A value of a format is encoded exactly: encoding it gives a pattern of the same value and raises nothing; F to D keeps
the longword and puts zeros above it (R272, R328). -/
def Obligations.EncodingIsExact : Prop :=
  (∀ (fmt : FloatFmt) x exc, ∃ q, fmt.encode (fmt.value x) exc = .ok q ∧
    (fmt.value q).toRat = (fmt.value x).toRat ∧ fmt.isRsvd q = false) ∧
  (∀ x exc, FloatFmt.expField .f x ≠ 0 → FloatFmt.encode .d (FloatFmt.value .f x) exc = .ok (x.lo.zeroExtend 64))
end

