-- ==== Sys2Proof/Laws/Element.lean ====
section
/-! SUPPORT. Masks, register elements and the record of exceptions: what each operation gives, element by element. -/

namespace Sys2Proof.Machine

/-- Folding the bits of a list of positions into a mask. -/
theorem getLsbD_foldMask (f : Nat → Bool) (l : List Nat) (m : Quad) (i : Nat) (hi : i < 64) :
    (l.foldl (fun m i => if f i then m ||| (1#64 <<< i) else m) m).getLsbD i = (m.getLsbD i || (l.contains i && f i)) := by
  induction l generalizing m with
  | nil => simp
  | cons j l ih =>
    rw [List.foldl_cons, ih]
    by_cases hj : i = j
    · subst hj
      cases hf : f i <;> simp [hi]
    · have hb : (i == j) = false := beq_eq_false_iff_ne.mpr hj
      cases hf : f j
      · simp [hj]
      · simp only [if_true, BitVec.getLsbD_or, BitVec.getLsbD_shiftLeft, List.contains_cons, hb, Bool.false_or]
        by_cases hlt : i < j
        · simp [hlt]
        · have h1 : (1#64).getLsbD (i - j) = false := by
            rw [BitVec.getLsbD_one]
            simp
            omega
          simp [h1]

/-- Bit `i` of a mask is what the mask was made from. -/
@[simp] theorem getLsbD_maskOf (f : Nat → Bool) (i : Nat) : (maskOf f).getLsbD i = (decide (i < 64) && f i) := by
  by_cases hi : i < 64
  · rw [maskOf, getLsbD_foldMask f _ _ i hi]
    simp [hi]
  · simp [hi, BitVec.getLsbD_of_ge (maskOf f) i (by omega)]

/-- A mask is zero exactly where what it was made from holds nowhere. -/
theorem maskOf_eq_zero (f : Nat → Bool) : maskOf f = 0 ↔ ∀ i, i < 64 → f i = false := by
  constructor
  · intro h i hi
    have h' : (maskOf f).getLsbD i = (0 : Quad).getLsbD i := by rw [h]
    rw [getLsbD_maskOf] at h'
    simpa [hi] using h'
  · intro h
    refine BitVec.eq_of_getLsbD_eq fun i hi => ?_
    rw [getLsbD_maskOf, h i hi]
    simp

/-- Two masks are equal where what they were made from agrees below 64. -/
theorem maskOf_congr (f g : Nat → Bool) (h : ∀ i, i < 64 → f i = g i) : maskOf f = maskOf g :=
  BitVec.eq_of_getLsbD_eq fun i hi => by rw [getLsbD_maskOf, getLsbD_maskOf, h i hi]

/-- A mask is made of its own bits. -/
theorem maskOf_getLsbD (m : Quad) : (maskOf fun i => m.getLsbD i) = m :=
  BitVec.eq_of_getLsbD_eq fun i hi => by rw [getLsbD_maskOf]; simp [hi]

/-- Every element is in the mask of all. -/
@[simp] theorem getLsbD_allElements (i : Nat) : allElements.getLsbD i = decide (i < 64) := by
  rw [allElements, BitVec.getLsbD_allOnes]

/-- The low longword of a quadword made of two. -/
@[simp] theorem Quad.lo_mk (h l : Long) : Quad.lo (Quad.mk h l) = l := by
  ext i hi
  simp [hi, BitVec.getLsbD_append]

/-- The high longword of a quadword made of two. -/
@[simp] theorem Quad.hi_mk (h l : Long) : Quad.hi (Quad.mk h l) = h := by
  ext i hi
  simp [hi, BitVec.getLsbD_append]

/-- An element of a register just replaced. -/
@[simp] theorem Vp.elem_setReg_same (p : Vp) (r : BitVec 4) (f : Fin 64 → Quad) (i : Fin 64) :
    (p.setReg r f).elem r i = f i := by
  simp [Vp.elem, Vp.setReg]

/-- An element of a register not replaced. -/
theorem Vp.elem_setReg_other (p : Vp) (r q : BitVec 4) (f : Fin 64 → Quad) (i : Fin 64) (h : q ≠ r) :
    (p.setReg r f).elem q i = p.elem q i := by
  have hn : r.toNat ≠ q.toNat := fun hc => h (BitVec.eq_of_toNat_eq hc.symm)
  simp [Vp.elem, Vp.setReg, Vector.getElem_set_ne, hn]

/-- Recording exceptions touches no vector register. -/
@[simp] theorem Vp.elem_recordAex (t : AexSet) (d : Option (BitVec 4)) (p : Vp) (r : BitVec 4) (i : Fin 64) :
    (p.recordAex t d).elem r i = p.elem r i := by
  unfold Vp.recordAex
  split <;> rfl

/-- Recording no exception changes nothing. -/
@[simp] theorem Vp.recordAex_zero (d : Option (BitVec 4)) (p : Vp) : p.recordAex 0 d = p := rfl

/-- What recording exceptions can change. -/
theorem Vp.recordAex_frame (t : AexSet) (d : Option (BitVec 4)) (p : Vp) :
    p.recordAex t d = { p with
      vaer := (p.recordAex t d).vaer, vpsr := (p.recordAex t d).vpsr, aexPending := (p.recordAex t d).aexPending } := by
  unfold Vp.recordAex
  split <;> rfl

/-- Recording exceptions leaves VMR alone. -/
@[simp] theorem Vp.vmr_recordAex (t : AexSet) (d : Option (BitVec 4)) (p : Vp) : (p.recordAex t d).vmr = p.vmr := by
  unfold Vp.recordAex
  split <;> rfl

/-- Recording exceptions leaves the dependences alone. -/
@[simp] theorem Vp.taint_recordAex (t : AexSet) (d : Option (BitVec 4)) (p : Vp) :
    (p.recordAex t d).taint = p.taint := by
  unfold Vp.recordAex
  split <;> rfl

/-- Recording exceptions leaves the vector registers alone. -/
@[simp] theorem Vp.v_recordAex (t : AexSet) (d : Option (BitVec 4)) (p : Vp) : (p.recordAex t d).v = p.v := by
  unfold Vp.recordAex
  split <;> rfl

/-- A union of exception types that are all empty is empty. -/
theorem unionTypes_zero (act : Nat → Bool) (f : Fin 64 → Elem) (h : ∀ i, act i.val = true → (f i).types = 0) :
    unionTypes act f = 0 := by
  unfold unionTypes
  generalize List.finRange 64 = l
  induction l with
  | nil => rfl
  | cons i l ih =>
    rw [List.foldl_cons]
    cases ha : act i.val with
    | false => simpa using ih
    | true => simpa [h i ha] using ih

end Sys2Proof.Machine
end

