-- ==== Sys2Proof/Laws/Memory.lean ====
section
/-! SUPPORT. Memory: reading after writing, and every operation keeps the canonical form. -/

namespace Sys2Proof.Machine

/-- The canonical form of a nonempty list: its head is listed rightly and below the rest, which is canonical. -/
theorem cellsWf_cons (x : Nat) (b : Byte) (cs : List Host.Cell) :
    cellsWf ((x, b) :: cs) = true ↔ b ≠ unlistedByte ∧ (∀ c ∈ cs, x < c.1) ∧ cellsWf cs = true := by
  induction cs generalizing x b with
  | nil => simp [cellsWf]
  | cons d ds ih =>
    obtain ⟨y, c⟩ := d
    rw [cellsWf, Bool.and_eq_true, Bool.and_eq_true, decide_eq_true_eq, decide_eq_true_eq]
    constructor
    · rintro ⟨⟨hb, hxy⟩, hw⟩
      refine ⟨hb, ?_, hw⟩
      intro e he
      rcases List.mem_cons.mp he with rfl | he
      · exact hxy
      · exact lt_trans hxy (((ih y c).mp hw).2.1 e he)
    · rintro ⟨hb, hlt, hw⟩
      exact ⟨⟨hb, hlt (y, c) (List.mem_cons_self ..)⟩, hw⟩

/-- Where every listed address is above `a`, `a` reads as an unlisted byte. -/
theorem cellsRead_below (cs : List Host.Cell) (a : Nat) (h : ∀ c ∈ cs, a < c.1) : cellsRead cs a = unlistedByte := by
  induction cs with
  | nil => rfl
  | cons d ds ih =>
    obtain ⟨y, c⟩ := d
    have hy : a < y := h (y, c) (List.mem_cons_self ..)
    rw [cellsRead, if_neg (by omega)]
    exact ih fun e he => h e (List.mem_cons_of_mem _ he)

/-- The addresses after a write are the old ones and perhaps the written one. -/
theorem mem_cellsWrite (cs : List Host.Cell) (a : Nat) (v : Byte) (c : Host.Cell) (h : c ∈ cellsWrite cs a v) :
    c.1 = a ∨ c ∈ cs := by
  induction cs with
  | nil =>
    rw [cellsWrite] at h
    split at h <;> simp_all
  | cons d ds ih =>
    obtain ⟨y, b⟩ := d
    rw [cellsWrite] at h
    split at h
    · rcases List.mem_cons.mp h with rfl | h
      · exact .inr (List.mem_cons_self ..)
      · exact (ih h).imp id (List.mem_cons_of_mem _)
    · split at h
      · split at h
        · exact .inr (List.mem_cons_of_mem _ h)
        · rcases List.mem_cons.mp h with rfl | h
          · exact .inl rfl
          · exact .inr (List.mem_cons_of_mem _ h)
      · split at h
        · exact .inr h
        · rcases List.mem_cons.mp h with rfl | h
          · exact .inl rfl
          · exact .inr h

/-- A write keeps the canonical form. -/
theorem cellsWf_write (cs : List Host.Cell) (a : Nat) (v : Byte) (h : cellsWf cs = true) :
    cellsWf (cellsWrite cs a v) = true := by
  induction cs with
  | nil =>
    rw [cellsWrite]
    split <;> simp_all [cellsWf]
  | cons d ds ih =>
    obtain ⟨y, b⟩ := d
    obtain ⟨hb, hlt, hw⟩ := (cellsWf_cons y b ds).mp h
    rw [cellsWrite]
    split
    · rename_i hya
      refine (cellsWf_cons y b _).mpr ⟨hb, ?_, ih hw⟩
      intro c hc
      rcases mem_cellsWrite ds a v c hc with hc | hc
      · omega
      · exact hlt c hc
    · split
      · rename_i hya
        subst hya
        split
        · exact hw
        · rename_i hv
          exact (cellsWf_cons y v ds).mpr ⟨hv, hlt, hw⟩
      · split
        · exact h
        · rename_i hv
          refine (cellsWf_cons a v _).mpr ⟨hv, ?_, h⟩
          intro c hc
          rcases List.mem_cons.mp hc with rfl | hc
          · show a < y
            omega
          · have := hlt c hc
            omega

/-- A written byte reads back. -/
theorem cellsRead_write_same (cs : List Host.Cell) (a : Nat) (v : Byte) (h : cellsWf cs = true) :
    cellsRead (cellsWrite cs a v) a = v := by
  induction cs with
  | nil =>
    rw [cellsWrite]
    split <;> simp_all [cellsRead]
  | cons d ds ih =>
    obtain ⟨y, b⟩ := d
    obtain ⟨_, hlt, hw⟩ := (cellsWf_cons y b ds).mp h
    rw [cellsWrite]
    split
    · rw [cellsRead, if_neg (by omega)]
      exact ih hw
    · split
      · rename_i hya
        subst hya
        split
        · rename_i hv
          rw [cellsRead_below ds y hlt, hv]
        · rw [cellsRead, if_pos rfl]
      · split
        · rename_i hv
          rw [hv]
          refine cellsRead_below _ a ?_
          intro c hc
          rcases List.mem_cons.mp hc with rfl | hc
          · show a < y
            omega
          · have := hlt c hc
            omega
        · rw [cellsRead, if_pos rfl]

/-- A write leaves every other byte alone. -/
theorem cellsRead_write_other (cs : List Host.Cell) (a x : Nat) (v : Byte) (hx : x ≠ a) :
    cellsRead (cellsWrite cs a v) x = cellsRead cs x := by
  induction cs with
  | nil =>
    rw [cellsWrite]
    split
    · rfl
    · simp [cellsRead, Ne.symm hx]
  | cons d ds ih =>
    obtain ⟨y, b⟩ := d
    rw [cellsWrite]
    split
    · rw [cellsRead, cellsRead, ih]
    · split
      · rename_i hya
        subst hya
        split <;> simp [cellsRead, Ne.symm hx]
      · split
        · rfl
        · rw [cellsRead, if_neg (Ne.symm hx)]

namespace Memory

/-- A write of one byte keeps the canonical form. -/
theorem wf_write (m : Memory) (a : Nat) (b : Byte) (h : m.wf = true) : (m.write a b).wf = true :=
  cellsWf_write m.cells a b h

/-- A write of bytes keeps the canonical form. -/
theorem wf_writeCells (cs : List Host.Cell) (m : Memory) (h : m.wf = true) : (m.writeCells cs).wf = true := by
  induction cs generalizing m with
  | nil => exact h
  | cons c cs ih => exact ih (m.write c.1 c.2) (wf_write m c.1 c.2 h)

/-- A written byte reads back. -/
theorem read_write_same (m : Memory) (a : Nat) (b : Byte) (h : m.wf = true) : (m.write a b).read a = b :=
  cellsRead_write_same m.cells a b h

/-- A write leaves every other byte alone. -/
theorem read_write_other (m : Memory) (a x : Nat) (b : Byte) (hx : x ≠ a) : (m.write a b).read x = m.read x :=
  cellsRead_write_other m.cells a x b hx

/-- A write of bytes leaves every other byte alone. -/
theorem read_writeCells_other (cs : List Host.Cell) (m : Memory) (x : Nat) (hx : x ∉ cs.map Prod.fst) :
    (m.writeCells cs).read x = m.read x := by
  induction cs generalizing m with
  | nil => rfl
  | cons c cs ih =>
    rw [List.map_cons, List.mem_cons, not_or] at hx
    exact (ih (m.write c.1 c.2) hx.2).trans (read_write_other m c.1 x c.2 hx.1)

end Memory

end Sys2Proof.Machine
end

