-- ==== Sys2Proof/Laws/State.lean ====
section
/-! SUPPORT. One lemma per field and update of the state, true by definition, so that no proof unfolds an update. -/

namespace Sys2Proof.Machine

@[simp] theorem State.setPc_cfg (s : State) (x : Long) : (s.setPc x).cfg = s.cfg := rfl
@[simp] theorem State.setPc_cpu (s : State) (x : Long) : (s.setPc x).cpu = { s.cpu with pc := x } := rfl
@[simp] theorem State.setPc_vp (s : State) (x : Long) : (s.setPc x).vp = s.vp := rfl
@[simp] theorem State.setPc_mem (s : State) (x : Long) : (s.setPc x).mem = s.mem := rfl
@[simp] theorem State.setPc_pageMap (s : State) (x : Long) : (s.setPc x).pageMap = s.pageMap := rfl
@[simp] theorem State.setPc_saved (s : State) (x : Long) : (s.setPc x).saved = s.saved := rfl
@[simp] theorem State.setPc_vstores (s : State) (x : Long) : (s.setPc x).vstores = s.vstores := rfl
@[simp] theorem State.setPc_sched (s : State) (x : Long) : (s.setPc x).sched = s.sched := rfl
@[simp] theorem State.setPc_races (s : State) (x : Long) : (s.setPc x).races = s.races := rfl
@[simp] theorem State.setPc_draws (s : State) (x : Long) : (s.setPc x).draws = s.draws := rfl

@[simp] theorem State.setReg_cfg (s : State) (n : RegNo) (x : Long) : (s.setReg n x).cfg = s.cfg := rfl
@[simp] theorem State.setReg_cpu (s : State) (n : RegNo) (x : Long) : (s.setReg n x).cpu = s.cpu.writeReg n x := rfl
@[simp] theorem State.setReg_vp (s : State) (n : RegNo) (x : Long) : (s.setReg n x).vp = s.vp := rfl
@[simp] theorem State.setReg_mem (s : State) (n : RegNo) (x : Long) : (s.setReg n x).mem = s.mem := rfl
@[simp] theorem State.setReg_pageMap (s : State) (n : RegNo) (x : Long) : (s.setReg n x).pageMap = s.pageMap := rfl
@[simp] theorem State.setReg_saved (s : State) (n : RegNo) (x : Long) : (s.setReg n x).saved = s.saved := rfl
@[simp] theorem State.setReg_vstores (s : State) (n : RegNo) (x : Long) : (s.setReg n x).vstores = s.vstores := rfl
@[simp] theorem State.setReg_sched (s : State) (n : RegNo) (x : Long) : (s.setReg n x).sched = s.sched := rfl
@[simp] theorem State.setReg_races (s : State) (n : RegNo) (x : Long) : (s.setReg n x).races = s.races := rfl
@[simp] theorem State.setReg_draws (s : State) (n : RegNo) (x : Long) : (s.setReg n x).draws = s.draws := rfl

@[simp] theorem State.setVp_cfg (s : State) (p : Vp) : (s.setVp p).cfg = s.cfg := rfl
@[simp] theorem State.setVp_cpu (s : State) (p : Vp) : (s.setVp p).cpu = s.cpu := rfl
@[simp] theorem State.setVp_vp (s : State) (p : Vp) : (s.setVp p).vp = p := rfl
@[simp] theorem State.setVp_mem (s : State) (p : Vp) : (s.setVp p).mem = s.mem := rfl
@[simp] theorem State.setVp_pageMap (s : State) (p : Vp) : (s.setVp p).pageMap = s.pageMap := rfl
@[simp] theorem State.setVp_saved (s : State) (p : Vp) : (s.setVp p).saved = s.saved := rfl
@[simp] theorem State.setVp_vstores (s : State) (p : Vp) : (s.setVp p).vstores = s.vstores := rfl
@[simp] theorem State.setVp_sched (s : State) (p : Vp) : (s.setVp p).sched = s.sched := rfl
@[simp] theorem State.setVp_races (s : State) (p : Vp) : (s.setVp p).races = s.races := rfl
@[simp] theorem State.setVp_draws (s : State) (p : Vp) : (s.setVp p).draws = s.draws := rfl

@[simp] theorem State.scalarWrite_cfg (s : State) (us : List (List Host.Cell)) : (s.scalarWrite us).cfg = s.cfg := rfl
@[simp] theorem State.scalarWrite_cpu (s : State) (us : List (List Host.Cell)) : (s.scalarWrite us).cpu = { s.cpu with wbuf := s.cpu.wbuf ++ us } := rfl
@[simp] theorem State.scalarWrite_vp (s : State) (us : List (List Host.Cell)) : (s.scalarWrite us).vp = s.vp := rfl
@[simp] theorem State.scalarWrite_mem (s : State) (us : List (List Host.Cell)) : (s.scalarWrite us).mem = s.mem := rfl
@[simp] theorem State.scalarWrite_pageMap (s : State) (us : List (List Host.Cell)) : (s.scalarWrite us).pageMap = s.pageMap := rfl
@[simp] theorem State.scalarWrite_saved (s : State) (us : List (List Host.Cell)) : (s.scalarWrite us).saved = s.saved := rfl
@[simp] theorem State.scalarWrite_vstores (s : State) (us : List (List Host.Cell)) : (s.scalarWrite us).vstores = s.vstores := rfl
@[simp] theorem State.scalarWrite_sched (s : State) (us : List (List Host.Cell)) : (s.scalarWrite us).sched = s.sched := rfl
@[simp] theorem State.scalarWrite_races (s : State) (us : List (List Host.Cell)) : (s.scalarWrite us).races = s.races := rfl
@[simp] theorem State.scalarWrite_draws (s : State) (us : List (List Host.Cell)) : (s.scalarWrite us).draws = s.draws := rfl

@[simp] theorem State.vectorWrite_cfg (s : State) (us : List (List Host.Cell)) : (s.vectorWrite us).cfg = s.cfg := rfl
@[simp] theorem State.vectorWrite_cpu (s : State) (us : List (List Host.Cell)) : (s.vectorWrite us).cpu = s.cpu := rfl
@[simp] theorem State.vectorWrite_vp (s : State) (us : List (List Host.Cell)) : (s.vectorWrite us).vp = { s.vp with vbuf := s.vp.vbuf ++ us } := rfl
@[simp] theorem State.vectorWrite_mem (s : State) (us : List (List Host.Cell)) : (s.vectorWrite us).mem = s.mem := rfl
@[simp] theorem State.vectorWrite_pageMap (s : State) (us : List (List Host.Cell)) : (s.vectorWrite us).pageMap = s.pageMap := rfl
@[simp] theorem State.vectorWrite_saved (s : State) (us : List (List Host.Cell)) : (s.vectorWrite us).saved = s.saved := rfl
@[simp] theorem State.vectorWrite_vstores (s : State) (us : List (List Host.Cell)) : (s.vectorWrite us).vstores = us.flatten.map Prod.fst ++ s.vstores := rfl
@[simp] theorem State.vectorWrite_sched (s : State) (us : List (List Host.Cell)) : (s.vectorWrite us).sched = s.sched := rfl
@[simp] theorem State.vectorWrite_races (s : State) (us : List (List Host.Cell)) : (s.vectorWrite us).races = s.races := rfl
@[simp] theorem State.vectorWrite_draws (s : State) (us : List (List Host.Cell)) : (s.vectorWrite us).draws = s.draws := rfl

@[simp] theorem State.flushScalar_cfg (s : State) : (s.flushScalar).cfg = s.cfg := rfl
@[simp] theorem State.flushScalar_cpu (s : State) : (s.flushScalar).cpu = { s.cpu with wbuf := [] } := rfl
@[simp] theorem State.flushScalar_vp (s : State) : (s.flushScalar).vp = s.vp := rfl
@[simp] theorem State.flushScalar_mem (s : State) : (s.flushScalar).mem = s.mem.writeCells s.cpu.wbuf.flatten := rfl
@[simp] theorem State.flushScalar_pageMap (s : State) : (s.flushScalar).pageMap = s.pageMap := rfl
@[simp] theorem State.flushScalar_saved (s : State) : (s.flushScalar).saved = s.saved := rfl
@[simp] theorem State.flushScalar_vstores (s : State) : (s.flushScalar).vstores = s.vstores := rfl
@[simp] theorem State.flushScalar_sched (s : State) : (s.flushScalar).sched = s.sched := rfl
@[simp] theorem State.flushScalar_races (s : State) : (s.flushScalar).races = s.races := rfl
@[simp] theorem State.flushScalar_draws (s : State) : (s.flushScalar).draws = s.draws := rfl

@[simp] theorem State.flushVector_cfg (s : State) : (s.flushVector).cfg = s.cfg := rfl
@[simp] theorem State.flushVector_cpu (s : State) : (s.flushVector).cpu = s.cpu := rfl
@[simp] theorem State.flushVector_vp (s : State) : (s.flushVector).vp = { s.vp with vbuf := [] } := rfl
@[simp] theorem State.flushVector_mem (s : State) : (s.flushVector).mem = s.mem.writeCells s.vp.vbuf.flatten := rfl
@[simp] theorem State.flushVector_pageMap (s : State) : (s.flushVector).pageMap = s.pageMap := rfl
@[simp] theorem State.flushVector_saved (s : State) : (s.flushVector).saved = s.saved := rfl
@[simp] theorem State.flushVector_vstores (s : State) : (s.flushVector).vstores = s.vstores := rfl
@[simp] theorem State.flushVector_sched (s : State) : (s.flushVector).sched = s.sched := rfl
@[simp] theorem State.flushVector_races (s : State) : (s.flushVector).races = s.races := rfl
@[simp] theorem State.flushVector_draws (s : State) : (s.flushVector).draws = s.draws := rfl

@[simp] theorem State.flushAll_cfg (s : State) : (s.flushAll).cfg = s.cfg := rfl
@[simp] theorem State.flushAll_cpu (s : State) : (s.flushAll).cpu = { s.cpu with wbuf := [] } := rfl
@[simp] theorem State.flushAll_vp (s : State) : (s.flushAll).vp = { s.vp with vbuf := [] } := rfl
@[simp] theorem State.flushAll_mem (s : State) : (s.flushAll).mem = (s.mem.writeCells s.vp.vbuf.flatten).writeCells s.cpu.wbuf.flatten := rfl
@[simp] theorem State.flushAll_pageMap (s : State) : (s.flushAll).pageMap = s.pageMap := rfl
@[simp] theorem State.flushAll_saved (s : State) : (s.flushAll).saved = s.saved := rfl
@[simp] theorem State.flushAll_vstores (s : State) : (s.flushAll).vstores = s.vstores := rfl
@[simp] theorem State.flushAll_sched (s : State) : (s.flushAll).sched = s.sched := rfl
@[simp] theorem State.flushAll_races (s : State) : (s.flushAll).races = s.races := rfl
@[simp] theorem State.flushAll_draws (s : State) : (s.flushAll).draws = s.draws := rfl

@[simp] theorem State.spend_cfg (s : State) : (s.spend).cfg = s.cfg := rfl
@[simp] theorem State.spend_cpu (s : State) : (s.spend).cpu = s.cpu := rfl
@[simp] theorem State.spend_vp (s : State) : (s.spend).vp = s.vp := rfl
@[simp] theorem State.spend_mem (s : State) : (s.spend).mem = s.mem := rfl
@[simp] theorem State.spend_pageMap (s : State) : (s.spend).pageMap = s.pageMap := rfl
@[simp] theorem State.spend_saved (s : State) : (s.spend).saved = s.saved := rfl
@[simp] theorem State.spend_vstores (s : State) : (s.spend).vstores = s.vstores := rfl
@[simp] theorem State.spend_sched (s : State) : (s.spend).sched = s.sched := rfl
@[simp] theorem State.spend_races (s : State) : (s.spend).races = s.races := rfl
@[simp] theorem State.spend_draws (s : State) : (s.spend).draws = s.draws + 512 := rfl

@[simp] theorem State.forgetSaved_cfg (s : State) : (s.forgetSaved).cfg = s.cfg := rfl
@[simp] theorem State.forgetSaved_cpu (s : State) : (s.forgetSaved).cpu = s.cpu := rfl
@[simp] theorem State.forgetSaved_vp (s : State) : (s.forgetSaved).vp = s.vp := rfl
@[simp] theorem State.forgetSaved_mem (s : State) : (s.forgetSaved).mem = s.mem := rfl
@[simp] theorem State.forgetSaved_pageMap (s : State) : (s.forgetSaved).pageMap = s.pageMap := rfl
@[simp] theorem State.forgetSaved_saved (s : State) : (s.forgetSaved).saved = s.saved.map fun r => { r with queue := r.queue.map QEntry.forget } := rfl
@[simp] theorem State.forgetSaved_vstores (s : State) : (s.forgetSaved).vstores = s.vstores := rfl
@[simp] theorem State.forgetSaved_sched (s : State) : (s.forgetSaved).sched = s.sched := rfl
@[simp] theorem State.forgetSaved_races (s : State) : (s.forgetSaved).races = s.races := rfl
@[simp] theorem State.forgetSaved_draws (s : State) : (s.forgetSaved).draws = s.draws := rfl

@[simp] theorem State.reported_cfg (s : State) : (s.reported).cfg = s.cfg := rfl
@[simp] theorem State.reported_cpu (s : State) : (s.reported).cpu = s.cpu := rfl
@[simp] theorem State.reported_vp (s : State) : (s.reported).vp = s.vp.forget := rfl
@[simp] theorem State.reported_mem (s : State) : (s.reported).mem = s.mem := rfl
@[simp] theorem State.reported_pageMap (s : State) : (s.reported).pageMap = s.pageMap := rfl
@[simp] theorem State.reported_saved (s : State) : (s.reported).saved = s.saved.map fun r => { r with queue := r.queue.map QEntry.forget } := rfl
@[simp] theorem State.reported_vstores (s : State) : (s.reported).vstores = s.vstores := rfl
@[simp] theorem State.reported_sched (s : State) : (s.reported).sched = s.sched := rfl
@[simp] theorem State.reported_races (s : State) : (s.reported).races = s.races := rfl
@[simp] theorem State.reported_draws (s : State) : (s.reported).draws = s.draws := rfl

@[simp] theorem State.seeVen_cfg (s : State) : (s.seeVen).cfg = s.cfg := rfl
@[simp] theorem State.seeVen_cpu (s : State) : (s.seeVen).cpu = { s.cpu with
    venSeen := s.vp.ven, afterDisabled := s.cpu.afterDisabled && !s.vp.ven } := rfl
@[simp] theorem State.seeVen_vp (s : State) : (s.seeVen).vp = s.vp := rfl
@[simp] theorem State.seeVen_mem (s : State) : (s.seeVen).mem = s.mem := rfl
@[simp] theorem State.seeVen_pageMap (s : State) : (s.seeVen).pageMap = s.pageMap := rfl
@[simp] theorem State.seeVen_saved (s : State) : (s.seeVen).saved = s.saved := rfl
@[simp] theorem State.seeVen_vstores (s : State) : (s.seeVen).vstores = s.vstores := rfl
@[simp] theorem State.seeVen_sched (s : State) : (s.seeVen).sched = s.sched := rfl
@[simp] theorem State.seeVen_races (s : State) : (s.seeVen).races = s.races := rfl
@[simp] theorem State.seeVen_draws (s : State) : (s.seeVen).draws = s.draws := rfl

@[simp] theorem State.clearNow_cfg (s : State) : (s.clearNow).cfg = s.cfg := rfl
@[simp] theorem State.clearNow_cpu (s : State) : (s.clearNow).cpu = s.cpu := rfl
@[simp] theorem State.clearNow_vp (s : State) : (s.clearNow).vp = { s.vp with vaerOld := 0, aexLate := false } := rfl
@[simp] theorem State.clearNow_mem (s : State) : (s.clearNow).mem = s.mem := rfl
@[simp] theorem State.clearNow_pageMap (s : State) : (s.clearNow).pageMap = s.pageMap := rfl
@[simp] theorem State.clearNow_saved (s : State) : (s.clearNow).saved = s.saved := rfl
@[simp] theorem State.clearNow_vstores (s : State) : (s.clearNow).vstores = s.vstores := rfl
@[simp] theorem State.clearNow_sched (s : State) : (s.clearNow).sched = s.sched := rfl
@[simp] theorem State.clearNow_races (s : State) : (s.clearNow).races = s.races := rfl
@[simp] theorem State.clearNow_draws (s : State) : (s.clearNow).draws = s.draws := rfl

@[simp] theorem State.startTo_vp (s : State) (k : Nat) : (s.startTo k).vp = { s.vp with queue := startQueue k s.vp.queue } := rfl
@[simp] theorem State.startTo_cfg (s : State) (k : Nat) : (s.startTo k).cfg = s.cfg := rfl
@[simp] theorem State.startTo_cpu (s : State) (k : Nat) : (s.startTo k).cpu = s.cpu := rfl
@[simp] theorem State.startTo_mem (s : State) (k : Nat) : (s.startTo k).mem = s.mem := rfl
@[simp] theorem State.startTo_pageMap (s : State) (k : Nat) : (s.startTo k).pageMap = s.pageMap := rfl
@[simp] theorem State.startTo_saved (s : State) (k : Nat) : (s.startTo k).saved = s.saved := rfl
@[simp] theorem State.startTo_vstores (s : State) (k : Nat) : (s.startTo k).vstores = s.vstores := rfl
@[simp] theorem State.startTo_sched (s : State) (k : Nat) : (s.startTo k).sched = s.sched := rfl
@[simp] theorem State.startTo_races (s : State) (k : Nat) : (s.startTo k).races = s.races := rfl
@[simp] theorem State.startTo_draws (s : State) (k : Nat) : (s.startTo k).draws = s.draws := rfl

@[simp] theorem State.putEntry_cfg (s : State) (k : Nat) (e : QEntry) : (s.putEntry k e).cfg = s.cfg := rfl
@[simp] theorem State.putEntry_cpu (s : State) (k : Nat) (e : QEntry) : (s.putEntry k e).cpu = s.cpu := rfl
@[simp] theorem State.putEntry_vp (s : State) (k : Nat) (e : QEntry) : (s.putEntry k e).vp = Vp.retire { s.vp with queue := s.vp.queue.set k e } := rfl
@[simp] theorem State.putEntry_mem (s : State) (k : Nat) (e : QEntry) : (s.putEntry k e).mem = s.mem := rfl
@[simp] theorem State.putEntry_pageMap (s : State) (k : Nat) (e : QEntry) : (s.putEntry k e).pageMap = s.pageMap := rfl
@[simp] theorem State.putEntry_saved (s : State) (k : Nat) (e : QEntry) : (s.putEntry k e).saved = s.saved := rfl
@[simp] theorem State.putEntry_vstores (s : State) (k : Nat) (e : QEntry) : (s.putEntry k e).vstores = s.vstores := rfl
@[simp] theorem State.putEntry_sched (s : State) (k : Nat) (e : QEntry) : (s.putEntry k e).sched = s.sched := rfl
@[simp] theorem State.putEntry_races (s : State) (k : Nat) (e : QEntry) : (s.putEntry k e).races = s.races := rfl
@[simp] theorem State.putEntry_draws (s : State) (k : Nat) (e : QEntry) : (s.putEntry k e).draws = s.draws := rfl

@[simp] theorem Vp.setVpsr_v (p : Vp) (n : Nat) (b : Bool) : (p.setVpsr n b).v = p.v := rfl
@[simp] theorem Vp.setVpsr_vlr (p : Vp) (n : Nat) (b : Bool) : (p.setVpsr n b).vlr = p.vlr := rfl
@[simp] theorem Vp.setVpsr_vmr (p : Vp) (n : Nat) (b : Bool) : (p.setVpsr n b).vmr = p.vmr := rfl
@[simp] theorem Vp.setVpsr_vcr (p : Vp) (n : Nat) (b : Bool) : (p.setVpsr n b).vcr = p.vcr := rfl
@[simp] theorem Vp.setVpsr_vpsr (p : Vp) (n : Nat) (b : Bool) : (p.setVpsr n b).vpsr = setBit p.vpsr n b := rfl
@[simp] theorem Vp.setVpsr_vaer (p : Vp) (n : Nat) (b : Bool) : (p.setVpsr n b).vaer = p.vaer := rfl
@[simp] theorem Vp.setVpsr_vsar (p : Vp) (n : Nat) (b : Bool) : (p.setVpsr n b).vsar = p.vsar := rfl
@[simp] theorem Vp.setVpsr_queue (p : Vp) (n : Nat) (b : Bool) : (p.setVpsr n b).queue = p.queue := rfl
@[simp] theorem Vp.setVpsr_pendingMm (p : Vp) (n : Nat) (b : Bool) : (p.setVpsr n b).pendingMm = p.pendingMm := rfl
@[simp] theorem Vp.setVpsr_aexPending (p : Vp) (n : Nat) (b : Bool) : (p.setVpsr n b).aexPending = p.aexPending := rfl
@[simp] theorem Vp.setVpsr_taint (p : Vp) (n : Nat) (b : Bool) : (p.setVpsr n b).taint = p.taint := rfl
@[simp] theorem Vp.setVpsr_vbuf (p : Vp) (n : Nat) (b : Bool) : (p.setVpsr n b).vbuf = p.vbuf := rfl
@[simp] theorem Vp.setVpsr_mm (p : Vp) (n : Nat) (b : Bool) : (p.setVpsr n b).mm = p.mm := rfl
@[simp] theorem Vp.setVpsr_tb (p : Vp) (n : Nat) (b : Bool) : (p.setVpsr n b).tb = p.tb := rfl
@[simp] theorem Vp.setVpsr_hwMem (p : Vp) (n : Nat) (b : Bool) : (p.setVpsr n b).hwMem = p.hwMem := rfl
@[simp] theorem Vp.setVpsr_hwOp (p : Vp) (n : Nat) (b : Bool) : (p.setVpsr n b).hwOp = p.hwOp := rfl
@[simp] theorem Vp.setVpsr_halted (p : Vp) (n : Nat) (b : Bool) : (p.setVpsr n b).halted = p.halted := rfl
@[simp] theorem Vp.setVpsr_flushOnEnable (p : Vp) (n : Nat) (b : Bool) : (p.setVpsr n b).flushOnEnable = p.flushOnEnable := rfl
@[simp] theorem Vp.setVpsr_vaerOld (p : Vp) (n : Nat) (b : Bool) : (p.setVpsr n b).vaerOld = p.vaerOld := rfl
@[simp] theorem Vp.setVpsr_aexLate (p : Vp) (n : Nat) (b : Bool) : (p.setVpsr n b).aexLate = p.aexLate := rfl
@[simp] theorem Vp.setVpsr_storing (p : Vp) (n : Nat) (b : Bool) : (p.setVpsr n b).storing = p.storing := rfl
@[simp] theorem Vp.setVpsr_impUnseen (p : Vp) (n : Nat) (b : Bool) : (p.setVpsr n b).impUnseen = p.impUnseen := rfl

@[simp] theorem Vp.setReg_v (p : Vp) (r : BitVec 4) (f : Fin 64 → Quad) : (p.setReg r f).v = p.v.set r.toNat (Vector.ofFn f) := rfl
@[simp] theorem Vp.setReg_vlr (p : Vp) (r : BitVec 4) (f : Fin 64 → Quad) : (p.setReg r f).vlr = p.vlr := rfl
@[simp] theorem Vp.setReg_vmr (p : Vp) (r : BitVec 4) (f : Fin 64 → Quad) : (p.setReg r f).vmr = p.vmr := rfl
@[simp] theorem Vp.setReg_vcr (p : Vp) (r : BitVec 4) (f : Fin 64 → Quad) : (p.setReg r f).vcr = p.vcr := rfl
@[simp] theorem Vp.setReg_vpsr (p : Vp) (r : BitVec 4) (f : Fin 64 → Quad) : (p.setReg r f).vpsr = p.vpsr := rfl
@[simp] theorem Vp.setReg_vaer (p : Vp) (r : BitVec 4) (f : Fin 64 → Quad) : (p.setReg r f).vaer = p.vaer := rfl
@[simp] theorem Vp.setReg_vsar (p : Vp) (r : BitVec 4) (f : Fin 64 → Quad) : (p.setReg r f).vsar = p.vsar := rfl
@[simp] theorem Vp.setReg_queue (p : Vp) (r : BitVec 4) (f : Fin 64 → Quad) : (p.setReg r f).queue = p.queue := rfl
@[simp] theorem Vp.setReg_pendingMm (p : Vp) (r : BitVec 4) (f : Fin 64 → Quad) : (p.setReg r f).pendingMm = p.pendingMm := rfl
@[simp] theorem Vp.setReg_aexPending (p : Vp) (r : BitVec 4) (f : Fin 64 → Quad) : (p.setReg r f).aexPending = p.aexPending := rfl
@[simp] theorem Vp.setReg_taint (p : Vp) (r : BitVec 4) (f : Fin 64 → Quad) : (p.setReg r f).taint = p.taint := rfl
@[simp] theorem Vp.setReg_vbuf (p : Vp) (r : BitVec 4) (f : Fin 64 → Quad) : (p.setReg r f).vbuf = p.vbuf := rfl
@[simp] theorem Vp.setReg_mm (p : Vp) (r : BitVec 4) (f : Fin 64 → Quad) : (p.setReg r f).mm = p.mm := rfl
@[simp] theorem Vp.setReg_tb (p : Vp) (r : BitVec 4) (f : Fin 64 → Quad) : (p.setReg r f).tb = p.tb := rfl
@[simp] theorem Vp.setReg_hwMem (p : Vp) (r : BitVec 4) (f : Fin 64 → Quad) : (p.setReg r f).hwMem = p.hwMem := rfl
@[simp] theorem Vp.setReg_hwOp (p : Vp) (r : BitVec 4) (f : Fin 64 → Quad) : (p.setReg r f).hwOp = p.hwOp := rfl
@[simp] theorem Vp.setReg_halted (p : Vp) (r : BitVec 4) (f : Fin 64 → Quad) : (p.setReg r f).halted = p.halted := rfl
@[simp] theorem Vp.setReg_flushOnEnable (p : Vp) (r : BitVec 4) (f : Fin 64 → Quad) : (p.setReg r f).flushOnEnable = p.flushOnEnable := rfl
@[simp] theorem Vp.setReg_vaerOld (p : Vp) (r : BitVec 4) (f : Fin 64 → Quad) : (p.setReg r f).vaerOld = p.vaerOld := rfl
@[simp] theorem Vp.setReg_aexLate (p : Vp) (r : BitVec 4) (f : Fin 64 → Quad) : (p.setReg r f).aexLate = p.aexLate := rfl
@[simp] theorem Vp.setReg_storing (p : Vp) (r : BitVec 4) (f : Fin 64 → Quad) : (p.setReg r f).storing = p.storing := rfl
@[simp] theorem Vp.setReg_impUnseen (p : Vp) (r : BitVec 4) (f : Fin 64 → Quad) : (p.setReg r f).impUnseen = p.impUnseen := rfl

@[simp] theorem Vp.overlay_v (p : Vp) (c : Sources) (a : Vector Quad 16) (m : Quad) : (p.overlay c a m).v = Vector.ofFn fun r => Vector.ofFn fun i => if a[r].getLsbD i then c.v[r][i] else p.v[r][i] := rfl
@[simp] theorem Vp.overlay_vlr (p : Vp) (c : Sources) (a : Vector Quad 16) (m : Quad) : (p.overlay c a m).vlr = p.vlr := rfl
@[simp] theorem Vp.overlay_vmr (p : Vp) (c : Sources) (a : Vector Quad 16) (m : Quad) : (p.overlay c a m).vmr = pick m c.vmr p.vmr := rfl
@[simp] theorem Vp.overlay_vcr (p : Vp) (c : Sources) (a : Vector Quad 16) (m : Quad) : (p.overlay c a m).vcr = p.vcr := rfl
@[simp] theorem Vp.overlay_vpsr (p : Vp) (c : Sources) (a : Vector Quad 16) (m : Quad) : (p.overlay c a m).vpsr = p.vpsr := rfl
@[simp] theorem Vp.overlay_vaer (p : Vp) (c : Sources) (a : Vector Quad 16) (m : Quad) : (p.overlay c a m).vaer = p.vaer := rfl
@[simp] theorem Vp.overlay_vsar (p : Vp) (c : Sources) (a : Vector Quad 16) (m : Quad) : (p.overlay c a m).vsar = p.vsar := rfl
@[simp] theorem Vp.overlay_queue (p : Vp) (c : Sources) (a : Vector Quad 16) (m : Quad) : (p.overlay c a m).queue = p.queue := rfl
@[simp] theorem Vp.overlay_pendingMm (p : Vp) (c : Sources) (a : Vector Quad 16) (m : Quad) : (p.overlay c a m).pendingMm = p.pendingMm := rfl
@[simp] theorem Vp.overlay_aexPending (p : Vp) (c : Sources) (a : Vector Quad 16) (m : Quad) : (p.overlay c a m).aexPending = p.aexPending := rfl
@[simp] theorem Vp.overlay_taint (p : Vp) (c : Sources) (a : Vector Quad 16) (m : Quad) : (p.overlay c a m).taint = { p.taint with v := Vector.ofFn fun r => pick a[r] c.taintV[r] p.taint.v[r], vmr := pick m c.taintMask p.taint.vmr } := rfl
@[simp] theorem Vp.overlay_vbuf (p : Vp) (c : Sources) (a : Vector Quad 16) (m : Quad) : (p.overlay c a m).vbuf = p.vbuf := rfl
@[simp] theorem Vp.overlay_mm (p : Vp) (c : Sources) (a : Vector Quad 16) (m : Quad) : (p.overlay c a m).mm = p.mm := rfl
@[simp] theorem Vp.overlay_tb (p : Vp) (c : Sources) (a : Vector Quad 16) (m : Quad) : (p.overlay c a m).tb = p.tb := rfl
@[simp] theorem Vp.overlay_hwMem (p : Vp) (c : Sources) (a : Vector Quad 16) (m : Quad) : (p.overlay c a m).hwMem = p.hwMem := rfl
@[simp] theorem Vp.overlay_hwOp (p : Vp) (c : Sources) (a : Vector Quad 16) (m : Quad) : (p.overlay c a m).hwOp = p.hwOp := rfl
@[simp] theorem Vp.overlay_halted (p : Vp) (c : Sources) (a : Vector Quad 16) (m : Quad) : (p.overlay c a m).halted = p.halted := rfl
@[simp] theorem Vp.overlay_flushOnEnable (p : Vp) (c : Sources) (a : Vector Quad 16) (m : Quad) : (p.overlay c a m).flushOnEnable = p.flushOnEnable := rfl
@[simp] theorem Vp.overlay_vaerOld (p : Vp) (c : Sources) (a : Vector Quad 16) (m : Quad) : (p.overlay c a m).vaerOld = p.vaerOld := rfl
@[simp] theorem Vp.overlay_aexLate (p : Vp) (c : Sources) (a : Vector Quad 16) (m : Quad) : (p.overlay c a m).aexLate = p.aexLate := rfl
@[simp] theorem Vp.overlay_storing (p : Vp) (c : Sources) (a : Vector Quad 16) (m : Quad) : (p.overlay c a m).storing = p.storing := rfl
@[simp] theorem Vp.overlay_impUnseen (p : Vp) (c : Sources) (a : Vector Quad 16) (m : Quad) : (p.overlay c a m).impUnseen = p.impUnseen := rfl

@[simp] theorem Vp.forget_v (p : Vp) : (p.forget).v = p.v := rfl
@[simp] theorem Vp.forget_vlr (p : Vp) : (p.forget).vlr = p.vlr := rfl
@[simp] theorem Vp.forget_vmr (p : Vp) : (p.forget).vmr = p.vmr := rfl
@[simp] theorem Vp.forget_vcr (p : Vp) : (p.forget).vcr = p.vcr := rfl
@[simp] theorem Vp.forget_vpsr (p : Vp) : (p.forget).vpsr = p.vpsr := rfl
@[simp] theorem Vp.forget_vaer (p : Vp) : (p.forget).vaer = p.vaer := rfl
@[simp] theorem Vp.forget_vsar (p : Vp) : (p.forget).vsar = p.vsar := rfl
@[simp] theorem Vp.forget_queue (p : Vp) : (p.forget).queue = p.queue.map QEntry.forget := rfl
@[simp] theorem Vp.forget_pendingMm (p : Vp) : (p.forget).pendingMm = p.pendingMm := rfl
@[simp] theorem Vp.forget_aexPending (p : Vp) : (p.forget).aexPending = false := rfl
@[simp] theorem Vp.forget_taint (p : Vp) : (p.forget).taint = {} := rfl
@[simp] theorem Vp.forget_vbuf (p : Vp) : (p.forget).vbuf = p.vbuf := rfl
@[simp] theorem Vp.forget_mm (p : Vp) : (p.forget).mm = p.mm := rfl
@[simp] theorem Vp.forget_tb (p : Vp) : (p.forget).tb = p.tb := rfl
@[simp] theorem Vp.forget_hwMem (p : Vp) : (p.forget).hwMem = p.hwMem := rfl
@[simp] theorem Vp.forget_hwOp (p : Vp) : (p.forget).hwOp = p.hwOp := rfl
@[simp] theorem Vp.forget_halted (p : Vp) : (p.forget).halted = p.halted := rfl
@[simp] theorem Vp.forget_flushOnEnable (p : Vp) : (p.forget).flushOnEnable = p.flushOnEnable := rfl
@[simp] theorem Vp.forget_vaerOld (p : Vp) : (p.forget).vaerOld = p.vaerOld := rfl
@[simp] theorem Vp.forget_aexLate (p : Vp) : (p.forget).aexLate = false := rfl
@[simp] theorem Vp.forget_storing (p : Vp) : (p.forget).storing = p.storing := rfl
@[simp] theorem Vp.forget_impUnseen (p : Vp) : (p.forget).impUnseen = p.impUnseen := rfl

@[simp] theorem andThen_next (s : State) (f : State → Out) : andThen (.next s) f = f s := rfl
@[simp] theorem andThen_fault (r : Fault) (f : State → Out) : andThen (.fault r) f = .fault r := rfl
@[simp] theorem andThen_refused (r : Refusal) (f : State → Out) : andThen (.refused r) f = .refused r := rfl

/-- Two operations in a row answer a next state exactly when both do. -/
theorem andThen_eq_next (o : Out) (f : State → Out) (t : State) :
    andThen o f = .next t ↔ ∃ s, o = .next s ∧ f s = .next t := by
  cases o <;> simp

/-- Completing a write changes memory and the writes that are not visible yet (R100). -/
theorem completeWrite_frame (u : List Host.Cell) (s : State) :
    s.completeWrite u = { s with
      mem := (s.completeWrite u).mem, vp := { s.vp with vbuf := (s.completeWrite u).vp.vbuf } } := by
  unfold State.completeWrite
  split <;> rfl

/-- What completing several writes changes. -/
theorem completeWrites_frame (l : List (Nat × List Host.Cell)) (s : State) :
    let t := l.foldl (fun s r => s.completeWrite r.2) s
    t = { s with mem := t.mem, vp := { s.vp with vbuf := t.vp.vbuf } } := by
  induction l generalizing s with
  | nil => rfl
  | cons r l ih =>
    have h := ih (s.completeWrite r.2)
    have hc := completeWrite_frame r.2 s
    simp only [List.foldl_cons] at h ⊢
    generalize s.completeWrite r.2 = u at h hc ⊢
    generalize l.foldl _ u = t at h ⊢
    rw [h, hc]

/-- A read of an instruction's operands sees the machine as it is, but for memory (R107). -/
theorem State.seenAt_frame (n : Nat) (s : State) :
    s.seenAt n = { s with mem := (s.seenAt n).mem, vp := { s.vp with vbuf := (s.seenAt n).vp.vbuf } } :=
  completeWrites_frame _ s

/-- With no vector write racing every read sees memory as it is. -/
theorem State.seenAt_none (n : Nat) (s : State) (h : s.races = []) : s.seenAt n = s := by
  rw [State.seenAt, h]
  rfl

/-- With no vector write racing there is nothing to settle. -/
theorem State.settleRaces_none (s : State) (h : s.races = []) : s.settleRaces = s := by
  unfold State.settleRaces
  rw [h]
  show { s with races := [] } = s
  rw [← h]

/-- What settling the races changes: what is visible in memory (R107). -/
theorem State.settleRaces_frame (s : State) :
    s.settleRaces = { s with
      mem := s.settleRaces.mem, vp := { s.vp with vbuf := s.settleRaces.vp.vbuf }, races := [] } := by
  have h := completeWrites_frame s.races s
  unfold State.settleRaces
  simp only at h ⊢
  generalize s.races.foldl _ s = t at h ⊢
  rw [h]

end Sys2Proof.Machine
end

