-- ==== Sys2Proof/Laws/Exceptions.lean ====
section
/-! SUPPORT. Taking an exception, returning from one, and writing a destination: what each can do, said once. -/

namespace Sys2Proof.Machine

/-- Bytes at listed addresses, cut after `n` of them. -/
theorem cellsAt_append (as bs : List Nat) (x y : Nat) (hx : x < 256 ^ as.length) :
    cellsAt as x ++ cellsAt bs y = cellsAt (as ++ bs) (x + 256 ^ as.length * y) := by
  induction as generalizing x with
  | nil => obtain rfl : x = 0 := by simpa using hx
           simp [cellsAt]
  | cons a as ih =>
    have h1 : 256 ^ (a :: as).length = 256 * 256 ^ as.length := by rw [List.length_cons, pow_succ, Nat.mul_comm]
    rw [h1] at hx ⊢
    have h2 : x / 256 < 256 ^ as.length := by
      rw [Nat.div_lt_iff_lt_mul (by norm_num)]; omega
    have h3 : (x + 256 * 256 ^ as.length * y) / 256 = x / 256 + 256 ^ as.length * y := by
      rw [Nat.mul_assoc, Nat.add_mul_div_left _ _ (by norm_num)]
    have h4 : BitVec.ofNat 8 (x + 256 * 256 ^ as.length * y) = BitVec.ofNat 8 x := by
      apply BitVec.eq_of_toNat_eq
      simp [Nat.mul_assoc, Nat.add_mul_mod_self_left]
    simp only [cellsAt, List.cons_append, ih _ h2, h3, h4]

/-- An exception's frame, written one longword at a time, is its bytes in order. -/
theorem longCells_flatten (pas : List Nat) (xs : List Long) (h : pas.length = 4 * xs.length) :
    (longCells pas xs).flatten = cellsAt pas (longsValue xs) := by
  induction xs generalizing pas with
  | nil => obtain rfl : pas = [] := List.eq_nil_of_length_eq_zero (by simpa using h)
           rfl
  | cons x xs ih =>
    have hl : pas.length = 4 * xs.length + 4 := by simpa [Nat.mul_add] using h
    have h4 : (pas.take 4).length = 4 := by rw [List.length_take]; omega
    have hx : x.toNat < 256 ^ (pas.take 4).length := by rw [h4]; have := x.isLt; omega
    rw [longCells, List.flatten_cons, ih _ (by rw [List.length_drop]; omega), cellsAt_append _ _ _ _ hx, h4,
      List.take_append_drop]
    rfl

/-- Taking an exception stops only where the frame cannot be written; else the scalar processor alone changes. -/
theorem takeException_cases (e : Exc) (s : State) :
    takeException e s = .fault .kernelStackNotValid ∨
    ∃ pas, scalarTranslateBytes s 0 true
        (s.cpu.sps[exceptionStack s.cpu.psl] - BitVec.ofNat 32 (4 * (exceptionFrame e s).length))
        (4 * (exceptionFrame e s).length) = .ok pas ∧
      takeException e s = .next { s with
        cpu := { s.cpu with
          wbuf := s.cpu.wbuf ++ longCells pas (exceptionFrame e s)
          sps := s.cpu.sps.set (exceptionStack s.cpu.psl)
            (s.cpu.sps[exceptionStack s.cpu.psl] - BitVec.ofNat 32 (4 * (exceptionFrame e s).length))
          psl := exceptionPsl s.cpu.psl
          pc := handlerAddress e s } } := by
  unfold takeException
  simp only []
  split
  · exact .inl rfl
  · rename_i pas h
    exact .inr ⟨pas, h, rfl⟩

/-- An exception that answers a next state leaves everything but the scalar processor alone. -/
theorem takeException_keeps {e : Exc} {s t : State} (h : takeException e s = .next t) :
    t = { s with cpu := t.cpu } ∧ t.cpu = { s.cpu with
      wbuf := t.cpu.wbuf, sps := t.cpu.sps, psl := exceptionPsl s.cpu.psl, pc := handlerAddress e s } := by
  rcases takeException_cases e s with h' | ⟨pas, _, h'⟩
  · rw [h] at h'
    cases h'
  · rw [h] at h'
    cases h'
    exact ⟨rfl, rfl⟩

/-- Taking an exception is never a refusal. -/
theorem takeException_not_refused (e : Exc) (s : State) (r : Refusal) : takeException e s ≠ .refused r := by
  rcases takeException_cases e s with h | ⟨_, _, h⟩ <;> rw [h] <;> simp

/-- REI restores PC and PSL, each as the scalar processor sees it at its read, and moves the stack pointer, or takes a memory-management fault. -/
theorem execRei_cases (s : State) :
    (∃ f, execRei s = takeException (.mm f) s) ∨
    ∃ pas, scalarTranslateBytes s s.mode false (s.cpu.sps[Scalar.stackIndex s.cpu.psl]) 8 = .ok pas ∧
      execRei s = .next { s with
        cpu := { s.cpu with
          sps := s.cpu.sps.set (Scalar.stackIndex s.cpu.psl) (s.cpu.sps[Scalar.stackIndex s.cpu.psl] + 8)
          pc := BitVec.ofNat 32 ((s.seenAt 0).scalarRead (pas.take 4))
          psl := BitVec.ofNat 32 ((s.seenAt 1).scalarRead (pas.drop 4)) } } := by
  unfold execRei
  simp only []
  split
  · rename_i f _
    exact .inl ⟨f, rfl⟩
  · rename_i pas h
    exact .inr ⟨pas, h, rfl⟩

/-- Writing a destination changes general registers, stack pointers and buffered scalar writes only. -/
theorem writeDest_keeps (d : Operand) (v : Long) (s : State) :
    writeDest d v s = { s with
      cpu := { s.cpu with
        gpr := (writeDest d v s).cpu.gpr, sps := (writeDest d v s).cpu.sps, wbuf := (writeDest d v s).cpu.wbuf } } := by
  unfold writeDest
  split
  · unfold State.setReg Scalar.writeReg
    split
    · rfl
    · split <;> rfl
  · rfl
  · rfl

/-- A register written is read back, but for register 15, whose writes are lost. -/
theorem readReg_writeReg (c : Scalar) (n : RegNo) (v cursor : Long) (h : n ≠ 15) :
    (c.writeReg n v).readReg n cursor = v := by
  unfold Scalar.writeReg
  split
  · rename_i hn
    simp [Scalar.readReg, hn]
  · split
    · rename_i hn hn'
      subst hn'
      simp [Scalar.readReg]
    · rename_i hn hn'
      have h1 : n.toNat = 14 ∨ n.toNat = 15 := by have := n.isLt; omega
      rcases h1 with h1 | h1
      · exact absurd (BitVec.eq_of_toNat_eq h1) hn'
      · exact absurd (BitVec.eq_of_toNat_eq h1) h

/-- Writing one register leaves another as it was. -/
theorem readReg_writeReg_ne (c : Scalar) (n m : RegNo) (v cursor : Long) (h : m ≠ n) :
    (c.writeReg n v).readReg m cursor = c.readReg m cursor := by
  have hne : m.toNat ≠ n.toNat := fun h' => h (BitVec.eq_of_toNat_eq h')
  unfold Scalar.writeReg
  split
  · rename_i hn
    unfold Scalar.readReg
    split
    · simp [Ne.symm hne]
    · rfl
  · split
    · rename_i hn hn'
      subst hn'
      unfold Scalar.readReg
      split
      · rfl
      · rfl
    · rfl

end Sys2Proof.Machine
end

