-- ==== Sys2Proof/Laws/Operands.lean ====
section
/-! SUPPORT. What evaluating operand specifiers can change: general registers and the counter of free values. -/

namespace Sys2Proof.Machine

theorem RegistersOnly.rfl' (s : State) : RegistersOnly s s := rfl

theorem RegistersOnly.trans {s t u : State} (h : RegistersOnly s t) (k : RegistersOnly t u) : RegistersOnly s u := by
  unfold RegistersOnly at *
  rw [k, h]

/-- Writing a general register. -/
theorem writeReg_frame (c : Scalar) (n : RegNo) (v : Long) :
    c.writeReg n v = { c with gpr := (c.writeReg n v).gpr, sps := (c.writeReg n v).sps } := by
  unfold Scalar.writeReg
  split
  · rfl
  · split <;> rfl

theorem setReg_registersOnly (s : State) (n : RegNo) (v : Long) : RegistersOnly s (s.setReg n v) := by
  unfold RegistersOnly State.setReg
  rw [writeReg_frame]

theorem spend_registersOnly (s : State) : RegistersOnly s s.spend := rfl

/-- A result of one evaluation step and another. -/
theorem Eval.bind_eq_ok {α β : Type} (x : Eval α) (f : α → Eval β) (b : β) (h : x.bind f = .ok b) :
    ∃ a, x = .ok a ∧ f a = .ok b := by
  cases x with
  | ok a => exact ⟨a, rfl, h⟩
  | exception e => cases h
  | refused r => cases h

theorem deferred_frame (k : Nat) (s : State) (va : Long) (g : Gathered Long) (h : deferred k s va = .ok g) : g.state = s := by
  obtain ⟨r, _, hr⟩ := Eval.bind_eq_ok _ _ _ h
  cases hr
  rfl

/-- Evaluating a memory specifier. -/
theorem evalBase_frame (k size : Nat) (b : Base) (c : Long) (s : State) (g : Gathered Long)
    (h : evalBase k size b c s = .ok g) : RegistersOnly s g.state := by
  cases b <;> simp only [evalBase] at h
  case autoincDef => exact (deferred_frame _ _ _ _ h) ▸ setReg_registersOnly ..
  case disp8Def => exact (deferred_frame _ _ _ _ h) ▸ RegistersOnly.rfl' _
  case disp16Def => exact (deferred_frame _ _ _ _ h) ▸ RegistersOnly.rfl' _
  case disp32Def => exact (deferred_frame _ _ _ _ h) ▸ RegistersOnly.rfl' _
  all_goals (cases h; first | exact RegistersOnly.rfl' _ | exact setReg_registersOnly ..)

/-- What an operand is at its address changes nothing more. -/
theorem evalMemory_frame (k : Nat) (acc : Access) (g : Gathered Long) (r : Gathered Operand) (h : evalMemory k acc g = .ok r) :
    r.state = g.state := by
  cases acc <;> simp only [evalMemory] at h
  case ab => cases h; rfl
  all_goals
    obtain ⟨x, _, hx⟩ := Eval.bind_eq_ok _ _ _ h
    cases hx
    rfl

theorem registerValue_frame (size : Nat) (n : RegNo) (c : Long) (s : State) :
    RegistersOnly s (registerValue size n c s).state := by
  unfold registerValue
  simp only []
  split
  · split <;> rfl
  · rfl

/-- Evaluating one specifier. -/
theorem evalSpec_frame (k : Nat) (acc : Access) (m : List RegNo) (sp : Spec) (c : Long) (s : State) (g : Gathered Operand)
    (h : evalSpec k acc m sp c s = .ok g) : RegistersOnly s g.state := by
  cases sp with
  | literal v => cases acc <;> simp only [evalSpec] at h <;> cases h <;> rfl
  | reg n =>
    cases acc <;> simp only [evalSpec] at h
    case ab => cases h
    case wl => cases h; rfl
    all_goals
      split at h
      · cases h; rfl
      · cases h; exact registerValue_frame ..
  | immediate v => cases acc <;> simp only [evalSpec] at h <;> cases h <;> rfl
  | mem b =>
    obtain ⟨g', hg, hr⟩ := Eval.bind_eq_ok _ _ _ h
    rw [evalMemory_frame _ _ _ _ hr]
    exact evalBase_frame _ _ _ _ _ _ hg
  | indexed x b =>
    obtain ⟨g', hg, hr⟩ := Eval.bind_eq_ok _ _ _ h
    rw [evalMemory_frame _ _ _ _ hr]
    exact (evalBase_frame _ _ _ _ _ _ hg :)

/-- Evaluating specifiers in stream order. -/
theorem evalSpecs_frame (m : List RegNo) (k : Nat) (accs : List Access) (sps : List Spec) (c : Long) (s : State)
    (g : Gathered (List Operand × Long)) (h : evalSpecs m k accs sps c s = .ok g) : RegistersOnly s g.state := by
  induction accs generalizing k sps c s g with
  | nil => cases sps <;> (cases h; rfl)
  | cons a as ih =>
    cases sps with
    | nil => cases h; rfl
    | cons sp sps =>
      obtain ⟨x, hx, hr⟩ := Eval.bind_eq_ok _ _ _ h
      obtain ⟨y, hy, hz⟩ := Eval.bind_eq_ok _ _ _ hr
      cases hz
      exact (evalSpec_frame _ _ _ _ _ _ _ hx).trans (ih _ _ _ _ _ hy :)

/-- EVALUATING OPERANDS changes general registers and the counter of free values, nothing else. -/
theorem evalOperands_frame (header : Nat) (accs : List Access) (sps : List Spec) (s : State) (o : Operands)
    (h : evalOperands header accs sps s = .ok o) : RegistersOnly s o.state := by
  obtain ⟨g, hg, hr⟩ := Eval.bind_eq_ok _ _ _ h
  cases hr
  exact evalSpecs_frame _ _ _ _ _ _ _ hg

end Sys2Proof.Machine
end

