-- ==== Sys2Proof/Laws/Pending.lean ====
section
/-! SUPPORT. Pending instructions: what is open, what settling and retiring can do, and the one instruction of a queue
that was empty. -/

namespace Sys2Proof.Machine

/-- An instruction that VPSR<STS> has not stored reads the registers as they are at its place. -/
theorem sees_none {e : QEntry} (h : e.copy = none) (p : Vp) : e.sees p = p := by rw [QEntry.sees, h]
theorem onto_none {e : QEntry} (h : e.copy = none) (p : Vp) : e.onto p = p := by rw [QEntry.onto, h]
theorem under_none {e : QEntry} (h : e.copy = none) (w : View) : w.under e = w := by rw [View.under, h]

/-- The view that an instruction has shows the registers as it reads them. -/
@[simp] theorem under_p (w : View) (e : QEntry) : (w.under e).p = e.sees w.p := by
  unfold View.under QEntry.sees
  cases e.copy <;> rfl

/-- With everything before it done, all is ready for an instruction. -/
theorem ready_under (p : Vp) (e : QEntry) : (View.under ⟨p, {}⟩ e).ready = {} := by
  unfold View.under
  cases e.copy with
  | none => rfl
  | some c =>
    have h : ∀ m : Quad, allElements ||| m = allElements := fun m => BitVec.eq_of_getLsbD_eq fun i hi => by
      rw [BitVec.getLsbD_or, getLsbD_allElements]
      simp [hi]
    have hv : (Vector.ofFn fun r : Fin 16 => (({} : Ready).v)[r] ||| c.readyV[r]) = ({} : Ready).v := by
      ext i hi
      simp only [Vector.getElem_ofFn, Fin.getElem_fin, Vector.getElem_replicate, h]
    simp only [h, hv]

/-- What an instruction reads of the registers depends on the vector registers, VMR and the dependences alone. -/
theorem sees_vmr_congr (e : QEntry) (p q : Vp) (h : q.vmr = p.vmr) : (e.sees q).vmr = (e.sees p).vmr := by
  unfold QEntry.sees
  split
  · exact h
  · rw [Vp.overlay_vmr, Vp.overlay_vmr, h]

/-- With everything before it done, an instruction's open elements are the active ones that are not finished and that it was
not given up before. -/
theorem getLsbD_openElems (p : Vp) (e : QEntry) (i : Nat) :
    (View.openElems ⟨p, {}⟩ e).getLsbD i = (decide (i < 64) && !e.done.getLsbD i && !e.left.getLsbD i && e.isActive (e.sees p).vmr i) := by
  rw [View.openElems, getLsbD_maskOf]
  by_cases hi : i < 64
  · have hk : View.knowsMask ⟨p, {}⟩ e i = true := by
      simp only [View.knowsMask, ready_under, getLsbD_allElements, hi, decide_true, Bool.or_true]
    rw [hk]
    unfold QEntry.isActive active
    cases decide (i < e.len.toNat) <;> simp [hi]
  · simp [hi]

/-- The open elements depend on VMR alone. -/
theorem openElems_congr (p q : Vp) (e : QEntry) (h : q.vmr = p.vmr) :
    View.openElems ⟨q, {}⟩ e = View.openElems ⟨p, {}⟩ e :=
  BitVec.eq_of_getLsbD_eq fun i _ => by rw [getLsbD_openElems, getLsbD_openElems, sees_vmr_congr e p q h]

/-- Of an instruction with length zero nothing is open. -/
theorem openElems_of_len_zero (p : Vp) (e : QEntry) (h : e.len = 0) : View.openElems ⟨p, {}⟩ e = 0 := by
  refine BitVec.eq_of_getLsbD_eq fun i _ => ?_
  rw [getLsbD_openElems]
  simp [QEntry.isActive, active, h]

/-- Once its open elements are finished nothing of an instruction is open. -/
theorem openElems_finished (p q : Vp) (e e' : QEntry) (h : q.vmr = p.vmr) (hc : e'.cntrl = e.cntrl) (hl : e'.len = e.len)
    (hs : e'.copy = e.copy) (hf : e'.left = e.left) (hd : e'.done = e.done ||| View.openElems ⟨p, {}⟩ e) : View.openElems ⟨q, {}⟩ e' = 0 := by
  refine BitVec.eq_of_getLsbD_eq fun i hi => ?_
  have hv : (e'.sees q).vmr = (e.sees p).vmr := by
    rw [← sees_vmr_congr e p q h]
    unfold QEntry.sees
    rw [hs]
  have ha : e'.isActive (e'.sees q).vmr i = e.isActive (e.sees p).vmr i := by
    rw [QEntry.isActive, QEntry.isActive, hc, hl, hv]
  rw [getLsbD_openElems, hd, hf, BitVec.getLsbD_or, getLsbD_openElems, ha]
  cases e.done.getLsbD i <;> cases e.left.getLsbD i <;> cases e.isActive (e.sees p).vmr i <;> simp

/-- What an instruction that VPSR<STS> has not stored makes of the registers. -/
theorem settle_none {e : QEntry} (h : e.copy = none) (p : Vp) : e.settle p = e.settleOn p p := by
  rw [QEntry.settle, sees_none h, onto_none h]

/-- What an instruction goes into is the registers but for vector elements, VMR and the dependences. -/
theorem onto_frame (e : QEntry) (p : Vp) :
    e.onto p = { p with v := (e.onto p).v, vmr := (e.onto p).vmr, taint := (e.onto p).taint } := by
  unfold QEntry.onto
  split <;> rfl

set_option maxRecDepth 4000 in
/-- Settling looks at no more of what an instruction sees than VMR and the dependences, and not at the queue. -/
theorem settleOn_queue (e : QEntry) (s p : Vp) (q q' : List QEntry) :
    e.settleOn { s with queue := q' } { p with queue := q } = { e.settleOn s p with queue := q } := by
  obtain ⟨op, _⟩ := e
  cases op <;> first | rfl | (rename_i r; cases r <;> rfl)

/-- Settling does not look at the queue. -/
theorem settle_queue (e : QEntry) (p : Vp) (q : List QEntry) :
    e.settle { p with queue := q } = { e.settle p with queue := q } := by
  have hs : e.sees { p with queue := q } = { e.sees p with queue := q } := by unfold QEntry.sees; split <;> rfl
  have ho : e.onto { p with queue := q } = { e.onto p with queue := q } := by unfold QEntry.onto; split <;> rfl
  rw [QEntry.settle, hs, ho, settleOn_queue]
  rfl

/-- Of the instructions that use VLR only one that accesses memory can be a gather into its own source. -/
theorem sameRegister_of_not_memory (e : QEntry) (h : e.op.isMemory = false) (hu : e.op.usesLength = true) :
    e.sameRegister = false := by
  obtain ⟨op, _⟩ := e
  cases op <;> first | rfl | exact Bool.noConfusion h | exact Bool.noConfusion hu

/-- What is finished is written, and nothing else but by a gather into its own source (R225). -/
theorem written_eq (e : QEntry) (h : e.sameRegister = false) : e.written = e.done := by
  rw [QEntry.written, QEntry.replaces, h, Bool.false_and]
  rfl

/-- What an instruction writes is its result, but for a gather into its own source (R225). -/
theorem result_eq (e : QEntry) (h : e.sameRegister = false) (i : Fin 64) : e.result i = e.res[i] := by
  rw [QEntry.result, h, Bool.false_and]
  rfl

theorem getLsbD_written (e : QEntry) (i : Fin 64) (h : e.done.getLsbD i = true) : e.written.getLsbD i = true := by
  unfold QEntry.written
  split
  · rw [getLsbD_allElements]; exact decide_eq_true i.isLt
  · exact h

/-- What settling an instruction changes of the registers its results go into. -/
theorem settleOn_frame (e : QEntry) (s p : Vp) :
    e.settleOn s p = { p with
      v := (e.settleOn s p).v, vlr := (e.settleOn s p).vlr, vmr := (e.settleOn s p).vmr, vcr := (e.settleOn s p).vcr,
      taint := (e.settleOn s p).taint } := by
  obtain ⟨op, _⟩ := e
  cases op <;> first | rfl | (rename_i r; cases r <;> rfl)

/-- What settling an instruction can change: the vector registers, VLR, VMR, VCR, and what they depend on. -/
theorem settle_frame (e : QEntry) (p : Vp) :
    e.settle p = { p with
      v := (e.settle p).v, vlr := (e.settle p).vlr, vmr := (e.settle p).vmr, vcr := (e.settle p).vcr,
      taint := (e.settle p).taint } := by
  unfold QEntry.settle
  have ho := onto_frame e p
  have h := settleOn_frame e (e.sees p) (e.onto p)
  generalize e.settleOn (e.sees p) (e.onto p) = r at h ⊢
  generalize e.onto p = q at ho h
  rw [h, ho]

/-- Retiring a queue of one instruction. -/
theorem retire_single (p : Vp) (e : QEntry) :
    Vp.retire { p with queue := [e] } =
      if View.openElems ⟨p, {}⟩ e = 0 then { e.settle p with queue := [] } else { p with queue := [e] } := by
  have ho : View.openElems ⟨{ p with queue := [e] }, {}⟩ e = View.openElems ⟨p, {}⟩ e := openElems_congr _ _ _ rfl
  simp only [Vp.retire, retireList, View.complete, ho, decide_eq_true_eq]
  split
  · rw [settle_queue]
  · rfl

/-- An empty queue has nothing to retire. -/
theorem retire_nil (p : Vp) (h : p.queue = []) : p.retire = p := by
  unfold Vp.retire
  rw [h]
  show ({ p with queue := [] } : Vp) = p
  rw [← h]

/-- The view at the head of the queue is the registers themselves. -/
theorem viewTo_zero (s : State) : viewTo s 0 = ⟨s.vp, {}⟩ := by
  unfold viewTo
  rw [List.take_zero]
  rfl

/-- The head of the queue has the registers themselves. -/
theorem viewAt_zero (s : State) {e : QEntry} (h : e.copy = none) : viewAt s 0 e = ⟨s.vp, {}⟩ := by
  rw [viewAt, under_none h, viewTo_zero]

/-- What starting leaves of a queue: the same instructions, of which some have started (R53). -/
theorem mem_startQueue {k j : Nat} {q : List QEntry} {e' : QEntry} (h : (startQueue k q)[j]? = some e') :
    ∃ e, q[j]? = some e ∧ (e' = e ∨ e' = { e with started := true }) := by
  unfold startQueue at h
  split at h
  · rw [List.getElem?_mapIdx] at h
    cases hj : q[j]? with
    | none => rw [hj] at h; cases h
    | some e =>
      rw [hj] at h
      refine ⟨e, rfl, ?_⟩
      have h' := (Option.some.inj h).symm
      split at h'
      · exact .inr h'
      · exact .inl h'
  · exact ⟨e', h, .inl rfl⟩

@[simp] theorem length_startQueue (k : Nat) (q : List QEntry) : (startQueue k q).length = q.length := by
  unfold startQueue
  split <;> simp

/-- An instruction that starts does so behind every older one (R53). -/
theorem startQueue_starts {k j : Nat} {q : List QEntry} {e ej : QEntry} (he : q[k]? = some e) (hs : e.started = false)
    (hj : j ≤ k) (hq : q[j]? = some ej) : (startQueue k q)[j]? = some { ej with started := true } := by
  unfold startQueue
  rw [he]
  simp [hs, List.getElem?_mapIdx, hq, hj]

/-- Finishing elements leaves the instruction itself alone. -/
@[simp] theorem finishElems_op (e : QEntry) (w : View) (m : Quad) : (finishElems e w m).op = e.op := rfl
@[simp] theorem finishElems_cntrl (e : QEntry) (w : View) (m : Quad) : (finishElems e w m).cntrl = e.cntrl := rfl
@[simp] theorem finishElems_len (e : QEntry) (w : View) (m : Quad) : (finishElems e w m).len = e.len := rfl
@[simp] theorem finishElems_copy (e : QEntry) (w : View) (m : Quad) : (finishElems e w m).copy = e.copy := rfl
@[simp] theorem finishElems_left (e : QEntry) (w : View) (m : Quad) : (finishElems e w m).left = e.left := rfl
@[simp] theorem finishElems_done (e : QEntry) (w : View) (m : Quad) : (finishElems e w m).done = e.done ||| m := rfl

end Sys2Proof.Machine
end

