-- ==== Sys2Proof/Laws/Issue.lean ====
section
/-! SUPPORT. Issue under prompt execution: an instruction that nothing turns away is executed at once. -/

namespace Sys2Proof.Machine

/-- Evaluated operands leave the configuration, the vector processor, memory and the schedule alone. -/
theorem RegistersOnly.fields {s t : State} (h : RegistersOnly s t) :
    t.cfg = s.cfg ∧ t.vp = s.vp ∧ t.mem = s.mem ∧ t.pageMap = s.pageMap ∧ t.saved = s.saved ∧ t.vstores = s.vstores ∧
      t.sched = s.sched ∧ t.cpu.psl = s.cpu.psl ∧ t.cpu.wbuf = s.cpu.wbuf ∧ t.cpu.pc = s.cpu.pc ∧
      t.cpu.venSeen = s.cpu.venSeen ∧ t.cpu.mapen = s.cpu.mapen ∧ t.cpu.mm = s.cpu.mm ∧ t.cpu.scbb = s.cpu.scbb := by
  rw [h]
  exact ⟨rfl, rfl, rfl, rfl, rfl, rfl, rfl, rfl, rfl, rfl, rfl, rfl, rfl, rfl⟩

/-- No test of the issue decision turns the instruction away. -/
theorem turnedAway_none (s : State) (h : Issuable s) : turnedAway s = none := by
  obtain ⟨h1, h2, h3, _, h5⟩ := h
  simp [turnedAway, h1, h2, h3, h5]

/-- With MF clear nothing is retried. -/
theorem retrySuspended_none (s : State) (h : s.vp.mf = false) : retrySuspended s = s := by
  simp [retrySuspended, h]

/-- An empty queue has room. -/
theorem queueFull_empty (s : State) (h : s.vp.queue = []) : queueFull s = false := by
  unfold queueFull entryViews
  split
  · rfl
  · simp [h]

/-- An empty queue is not waited for. -/
theorem makeRoom_next (s : State) (h : s.vp.queue = []) : makeRoom s = .next s := by
  rw [makeRoom, queueFull_empty s h]
  rfl

/-- With nothing queued an instruction uses VLR as it is (R189). -/
theorem currentLength_empty (p : Vp) (h : p.queue = []) : currentLength p = p.vlr := by
  simp [currentLength, h]

/-- With nothing queued nobody waits. -/
theorem pursue_empty (stop : State → Bool) (goal : State → Goal) (s : State) (h : s.vp.queue = []) :
    pursue stop goal s = .next s := by
  simp [pursue, h, pursueFuel]

/-- With nothing queued nothing is retried. -/
theorem whileRetrying_empty (s : State) (h : s.vp.queue = []) : whileRetrying s = .next s := by
  simp [whileRetrying, h]

theorem stillWanted_empty (s : State) (g : Goal) (h : s.vp.queue = []) : stillWanted s g = false := by
  simp [stillWanted, wanted, wantedFrom, entryViews, h]

theorem viewAll_empty (s : State) (h : s.vp.queue = []) : viewAll s = ⟨s.vp, {}⟩ := by
  simp [viewAll, viewTo, h]

/-- With nothing queued nothing is done. -/
theorem drain_empty (s : State) (h : s.vp.queue = []) : drain s = .next s := by
  simp [drain, h, drainFrom]

/-- With no vector write outstanding nothing becomes visible. -/
theorem flushVector_empty (s : State) (h : s.vp.vbuf = []) : s.flushVector = s := by
  have hv : ({ s.vp with vbuf := [] } : Vp) = s.vp := by rw [← h]
  unfold State.flushVector
  rw [h]
  simp only [List.flatten_nil, Memory.writeCells, List.foldl_nil, hv]

/-- With everything before it done, an instruction has every source (R187). -/
theorem sourcesReady_all (p : Vp) (e : QEntry) (i : Nat) (hi : i < 64) (hl : e.len.toNat ≤ 64) :
    sourcesReady ⟨p, {}⟩ e i = true := by
  have hv : ∀ r : BitVec 4, View.hasElem ⟨p, {}⟩ r i = true := by
    intro r
    simp only [View.hasElem, Vector.getElem_replicate, getLsbD_allElements, hi, decide_true]
  have hk : knownPrefix ⟨p, {}⟩ e = List.range e.len.toNat := by
    unfold knownPrefix
    rw [List.takeWhile_eq_self_iff]
    intro j hj
    rw [List.mem_range] at hj
    rw [getLsbD_allElements]
    exact decide_eq_true (by omega)
  have hc : iotaKnown ⟨p, {}⟩ e i = true := by
    simp only [iotaKnown, hk, List.length_range, decide_true, Bool.true_or]
  have hm : (({} : Ready).vmr).getLsbD i = true := by rw [getLsbD_allElements]; exact decide_eq_true hi
  unfold sourcesReady
  split <;> simp only [hv, hc, hm, Bool.true_and, List.all_eq_true, implies_true]

/-- Nothing stands before the head of the queue. -/
theorem orderAllows_head (s : State) (w : View) (e : QEntry) (i : Fin 64) : orderAllows s 0 w e i = true := by
  unfold orderAllows
  split
  · rfl
  · simp [beforeVsync]

/-- The head of the queue can execute everything that is open of it. -/
theorem runnable_head (s : State) (e : QEntry) (hl : e.len.toNat ≤ 64) :
    runnable s 0 ⟨s.vp, {}⟩ e = View.openElems ⟨s.vp, {}⟩ e := by
  refine BitVec.eq_of_getLsbD_eq fun i hi => ?_
  have hk : View.knowsMask ⟨s.vp, {}⟩ e i = true := by
    simp only [View.knowsMask, ready_under, getLsbD_allElements, hi, decide_true, Bool.or_true]
  rw [runnable, getLsbD_maskOf, hk, sourcesReady_all _ _ _ hi hl, orderAllows_head]
  simp [hi]

/-- What an instruction that accesses no memory makes of the registers, with everything before it done. -/
def executed (e : QEntry) (p : Vp) : Vp :=
  let m := View.openElems ⟨p, {}⟩ e
  (finishElems e ⟨p, {}⟩ m).settle
    (p.recordAex (unionTypes (fun i => m.getLsbD i) (effectOf e p).elem) (recordDest e))

/-- Sending to an idle vector processor that runs promptly: what leaves the queue at once. -/
theorem enqueue_complete (e : QEntry) (next : Long) (s : State) (hq : s.vp.queue = [])
    (h : View.openElems ⟨s.vp, {}⟩ e = 0) :
    (enqueue e next s).vp = e.settle s.vp := by
  have hs : ({ s.vp with queue := [] } : Vp) = s.vp := by rw [← hq]
  show Vp.retire { s.vp with queue := s.vp.queue ++ [e] } = _
  rw [hq, List.nil_append, retire_single, if_pos h]
  have := settle_queue e s.vp []
  rw [hs] at this
  exact this.symm

/-- Sending to an idle vector processor: what stays in the queue. -/
theorem enqueue_open (e : QEntry) (next : Long) (s : State) (hq : s.vp.queue = [])
    (h : View.openElems ⟨s.vp, {}⟩ e ≠ 0) :
    (enqueue e next s).vp = { s.vp with queue := [e] } := by
  show Vp.retire { s.vp with queue := s.vp.queue ++ [e] } = _
  rw [hq, List.nil_append, retire_single, if_neg h]

/-- The only instruction of the queue executes. -/
theorem drain_single (s : State) (e : QEntry) (hq : s.vp.queue = [e]) (hf : e.fault = none) (hh : s.vp.halted = false) :
    drain s = runElems 0 allElements none (s.startTo 0) := by
  have hr : runEntry 0 none none s = runElems 0 allElements none (s.startTo 0) := by
    simp [runEntry, hq, mayRun, mayStart, heldUp, QEntry.suspended, QEntry.retrying, hf, hh]
  simp only [drain, hq, List.length_singleton, drainFrom, hr]
  cases runElems 0 allElements none (s.startTo 0) <;> rfl

/-- The only instruction of the queue starts. -/
theorem startTo_single (s : State) (e : QEntry) (hq : s.vp.queue = [e]) :
    s.startTo 0 = s.setVp { s.vp with queue := [{ e with started := true }] } := by
  have hs : startQueue 0 s.vp.queue = [{ e with started := true }] := by
    rw [hq]
    cases h : e.started with
    | false => simp [startQueue, h]
    | true =>
      have he : ({ e with started := true } : QEntry) = e := by rw [← h]
      simp [startQueue, h, he]
  rw [State.startTo, hs]

/-- The only instruction of the queue, one that accesses no memory, is executed. -/
theorem runElems_operate (s : State) (e : QEntry) (hq : s.vp.queue = [e]) (hl : e.len.toNat ≤ 64) (hcp : e.copy = none)
    (hm : e.op.isMemory = false) (ho : View.openElems ⟨s.vp, {}⟩ e ≠ 0) :
    runElems 0 allElements none s = .next (operate 0 ⟨s.vp, {}⟩ e (View.openElems ⟨s.vp, {}⟩ e) s) := by
  have ha : View.openElems ⟨s.vp, {}⟩ e &&& allElements = View.openElems ⟨s.vp, {}⟩ e := by
    unfold allElements
    exact BitVec.and_allOnes
  have hget : s.vp.queue[0]? = some e := by rw [hq]; rfl
  simp only [runElems, hget, viewAt_zero s hcp, runnable_head s e hl, ha, if_neg ho]
  cases hop : e.op <;> first | rfl | (rw [hop] at hm; cases hm)

/-- Finishing no element changes at most the count that IOTA knows. -/
theorem finishElems_none (e : QEntry) (w : View) : finishElems e w 0 = { e with count := iotaCount e w } := by
  have h1 : e.done ||| 0 = e.done := BitVec.or_zero
  have h2 : (Vector.ofFn fun i : Fin 64 => if (0 : Quad).getLsbD i then ((effectOf e w.p).elem i).val else e.res[i]) =
      e.res := by
    ext i hi
    simp
  have h3 : (e.tainted ||| maskOf fun i => if h : i < 64 then
      (0 : Quad).getLsbD i && (decide (((effectOf e w.p).elem ⟨i, h⟩).types ≠ 0) || (effectOf e w.p).src i ||
        (moe e.cntrl && w.p.taint.vmr.getLsbD i)) else false) = e.tainted := by
    rw [(maskOf_eq_zero _).mpr (fun i hi => by simp [hi])]
    exact BitVec.or_zero
  unfold finishElems
  simp only [h1, h2, h3]

/-- Where nothing of an instruction is open it is only settled. -/
theorem executed_idle (e : QEntry) (p : Vp) (h : View.openElems ⟨p, {}⟩ e = 0)
    (hc : e.op = .iota → e.len = 0 ∧ e.count = some 0) : executed e p = e.settle p := by
  have hz : unionTypes (fun i => (0 : Quad).getLsbD i) (effectOf e p).elem = 0 :=
    unionTypes_zero _ _ fun i hi => by simp at hi
  have hcount : iotaCount e ⟨p, {}⟩ = e.count := by
    by_cases hop : e.op = .iota
    · obtain ⟨h1, h2⟩ := hc hop
      simp [iotaCount, hop, knownPrefix, iotaPositions, h1, h2]
    · unfold iotaCount
      split
      · rename_i h'
        exact absurd h' hop
      · rfl
  unfold executed
  simp only [h, hz, Vp.recordAex_zero, finishElems_none, hcount]

/-- That an instruction has started shows in nothing that it does. -/
theorem executed_started (e : QEntry) (p : Vp) (b : Bool) : executed { e with started := b } p = executed e p := rfl

/-- What `executed` can change. -/
theorem executed_frame (e : QEntry) (p : Vp) :
    executed e p = { p with
      v := (executed e p).v, vlr := (executed e p).vlr, vmr := (executed e p).vmr, vcr := (executed e p).vcr,
      taint := (executed e p).taint, vaer := (executed e p).vaer, vpsr := (executed e p).vpsr,
      aexPending := (executed e p).aexPending } := by
  unfold executed
  rw [settle_frame, Vp.recordAex_frame]

/-- Recording exceptions does not look at the queue. -/
theorem recordAex_queue (ts : AexSet) (d : Option (BitVec 4)) (p : Vp) (q : List QEntry) :
    Vp.recordAex ts d { p with queue := q } = { p.recordAex ts d with queue := q } := by
  unfold Vp.recordAex
  split <;> rfl

/-- What an instruction does on elements does not depend on the queue. -/
theorem effectOf_queue (e : QEntry) (p : Vp) (q : List QEntry) : effectOf e { p with queue := q } = effectOf e p := by
  unfold effectOf
  split <;> rfl

set_option maxRecDepth 4000 in
/-- Executing the only instruction of the queue. -/
theorem operate_single (s : State) (e : QEntry) (p : Vp) (hp : p.queue = []) :
    operate 0 ⟨{ p with queue := [e] }, {}⟩ e (View.openElems ⟨p, {}⟩ e) (s.setVp { p with queue := [e] }) =
      s.setVp (executed e p) := by
  have hc : ({ p with queue := [] } : Vp) = p := by rw [← hp]
  have hf : finishElems e ⟨{ p with queue := [e] }, {}⟩ (View.openElems ⟨p, {}⟩ e) =
      finishElems e ⟨p, {}⟩ (View.openElems ⟨p, {}⟩ e) := by
    unfold finishElems
    simp only [effectOf_queue]
    rfl
  have ho : View.openElems ⟨p.recordAex (unionTypes (fun i => (View.openElems ⟨p, {}⟩ e).getLsbD i) (effectOf e p).elem)
      (recordDest e), {}⟩ (finishElems e ⟨p, {}⟩ (View.openElems ⟨p, {}⟩ e)) = 0 :=
    openElems_finished p _ e _ (Vp.vmr_recordAex _ _ _) rfl rfl rfl rfl rfl
  have hq : (executed e p).queue = [] := by rw [executed_frame]; exact hp
  unfold operate
  simp only [effectOf_queue, State.setVp_vp, recordAex_queue, hf]
  unfold State.putEntry
  simp only [State.setVp_vp, List.set_cons_zero]
  rw [retire_single, if_pos ho]
  have : ({ executed e p with queue := [] } : Vp) = executed e p := by rw [← hq]
  exact congrArg _ this

/-- The entry that is sent, with the place where its free values begin. -/
abbrev sentEntry (op : VOp) (o : Operands) (s : State) : QEntry := { entryOf op o s with draw := o.state.draws }

/-- ISSUE of an instruction that nothing turns away, up to sending. -/
theorem issue_send (op : VOp) (sps : List Spec) (s : State) (o : Operands)
    (ho : evalOperands 2 op.accesses sps s = .ok o) (hi : Issuable s) (hq : Quiet s) (ha : Acceptable op sps o s)
    (hl : op.usesLength = true → s.vp.vlr.toNat ≤ 64) :
    issue op sps s = send (entryOf op o s) o.next s o.state := by
  have hf := (evalOperands_frame _ _ _ _ _ ho).fields
  have hmf : o.state.vp.mf = false := by rw [hf.2.1]; exact hi.2.2.2.1
  have hqq : o.state.vp.queue = [] := by rw [hf.2.1]; exact hq.2.1
  have hlen : ¬ 64 < (entryOf op o s).len.toNat := by
    show ¬ 64 < (if op.usesLength then currentLength s.vp else 0).toNat
    rw [currentLength_empty _ hq.2.1]
    split
    · have := hl (by assumption); omega
    · decide
  unfold Acceptable at ha
  simp only [issue, withVectorOperands, ho, turnedAway_none s hi, issueOp, refusalOf, ha, if_neg hlen, readyToSend,
    retrySuspended_none _ hmf, makeRoom_next _ hqq, andThen_next]

/-- The length of an entry that is acceptable is one (R24). -/
theorem sentEntry_len (op : VOp) (o : Operands) (s : State) (hq : s.vp.queue = [])
    (hl : op.usesLength = true → s.vp.vlr.toNat ≤ 64) : (sentEntry op o s).len.toNat ≤ 64 := by
  show (if op.usesLength then currentLength s.vp else 0).toNat ≤ 64
  rw [currentLength_empty _ hq]
  split
  · exact hl (by assumption)
  · decide

/-- An instruction that accesses no memory, sent to an idle vector processor that runs promptly: it is executed, and
nothing else happens. -/
theorem settle_enqueue_operate (e : QEntry) (next : Long) (s : State) (hq : Quiet s) (hl : e.len.toNat ≤ 64)
    (hm : e.op.isMemory = false) (hf : e.fault = none) (hcp : e.copy = none) (hc : e.op = .iota → View.openElems ⟨s.vp, {}⟩ e = 0 →
      e.len = 0 ∧ e.count = some 0) :
    settle (enqueue e next s) = .next ((s.setVp (executed e s.vp)).setPc next) := by
  obtain ⟨h1, h2, h3, h4⟩ := hq
  have hx : executed e s.vp = { executed e s.vp with queue := [], vbuf := [], halted := false } := by
    rw [executed_frame, ← h2, ← h3, ← h4]
  have hs : settle (enqueue e next s) = andThen (drain (enqueue e next s)) fun t => .next t.flushVector := by
    simp [settle, enqueue, h1]
  rw [hs]
  by_cases ho : View.openElems ⟨s.vp, {}⟩ e = 0
  · have he : enqueue e next s = (s.setVp (executed e s.vp)).setPc next := by
      have := enqueue_complete e next s h2 ho
      rw [← executed_idle e s.vp ho fun hi => hc hi ho] at this
      rw [← this]
      rfl
    rw [he, drain_empty _ (by rw [State.setPc_vp, State.setVp_vp, hx]), andThen_next,
      flushVector_empty _ (by rw [State.setPc_vp, State.setVp_vp, hx])]
  · have he : enqueue e next s = (s.setPc next).setVp { s.vp with queue := [e] } := by
      rw [← enqueue_open e next s h2 ho]
      rfl
    have hv : View.openElems ⟨{ s.vp with queue := [e] }, {}⟩ e = View.openElems ⟨s.vp, {}⟩ e := openElems_congr _ _ _ rfl
    have hqe : ((s.setPc next).setVp { s.vp with queue := [e] }).vp.queue = [e] := rfl
    let e' : QEntry := { e with started := true }
    have hst : ((s.setPc next).setVp { s.vp with queue := [e] }).startTo 0 =
        (s.setPc next).setVp { s.vp with queue := [e'] } := startTo_single _ e hqe
    have hv' : View.openElems ⟨{ s.vp with queue := [e'] }, {}⟩ e' = View.openElems ⟨s.vp, {}⟩ e' := openElems_congr _ _ _ rfl
    rw [he, drain_single _ e hqe hf h4, hst,
      runElems_operate _ e' rfl hl hcp hm (by rw [State.setVp_vp, hv']; exact ho),
      State.setVp_vp, hv', operate_single _ e' s.vp h2, andThen_next,
      flushVector_empty _ (by rw [State.setVp_vp, executed_started, hx])]
    rfl

/-- Without masks nothing of an instruction is open only where its length is zero. -/
theorem len_zero_of_openElems (p : Vp) (e : QEntry) (hd : e.done = 0) (hf : e.left = 0) (hm : moe e.cntrl = false)
    (h : View.openElems ⟨p, {}⟩ e = 0) : e.len = 0 := by
  have h0 := getLsbD_openElems p e 0
  rw [h, hd, hf] at h0
  simp only [Nat.zero_lt_succ, decide_true, Bool.not_false, Bool.true_and, QEntry.isActive, active,
    hm, Bool.true_or, Bool.and_true] at h0
  have : ¬ 0 < e.len.toNat := of_decide_eq_false h0.symm
  exact BitVec.eq_of_toNat_eq (by simp; omega)

/-- ISSUE of an instruction that accesses no memory, on an idle vector processor: operands, PC, the operation, and
nothing else. -/
theorem issue_operate (op : VOp) (sps : List Spec) (s : State) (o : Operands)
    (ho : evalOperands 2 op.accesses sps s = .ok o) (hi : Issuable s) (hq : Quiet s) (ha : Acceptable op sps o s)
    (hm : op.isMemory = false) (hl : op.usesLength = true → s.vp.vlr.toNat ≤ 64) :
    issue op sps s = .next { afterOperands o with
      vp := executed (sentEntry op o s) s.vp, draws := o.state.draws + 512 } := by
  have hf := (evalOperands_frame _ _ _ _ _ ho).fields
  have hqo : Quiet o.state.spend := by
    obtain ⟨h1, h2, h3, h4⟩ := hq
    refine ⟨hf.2.2.2.2.2.2.1.trans h1, ?_, ?_, ?_⟩ <;> rw [State.spend_vp, hf.2.1] <;> assumption
  have hsend : send (entryOf op o s) o.next s o.state = settle (enqueue (sentEntry op o s) o.next o.state.spend) := by
    have hacc : (entryOf op o s).op.access = none := by
      have h3 : (entryOf op o s).op = op := rfl
      rw [h3]
      cases op <;> first | rfl | cases hm
    unfold send
    rw [queueFull_empty o.state hqo.2.1]
    simp only [Bool.false_eq_true, if_false, hacc]
    cases o.state.spend.cfg.isAsync <;> rfl
  have hiota : (sentEntry op o s).op = .iota → View.openElems ⟨o.state.spend.vp, {}⟩ (sentEntry op o s) = 0 →
      (sentEntry op o s).len = 0 ∧ (sentEntry op o s).count = some 0 := by
    rintro hop hopen
    have hmoe : moe (entryOf op o s).cntrl = false := by
      have h3 : op = .iota := hop
      unfold Acceptable staticStop at ha
      subst h3
      simp only [VOp.floatScalar, VOp.isMemory, Bool.false_and, Bool.false_eq_true, if_false] at ha
      by_cases hz : (entryOf .iota o s).cntrl &&& zeroBits .iota = 0
      · have := congrArg (fun x : Word => x.getLsbD 15) hz
        simpa [moe, zeroBits, BitVec.getLsbD_and] using this
      · rw [if_pos (decide_eq_true hz)] at ha
        cases ha
    have hlen := len_zero_of_openElems _ (sentEntry op o s) rfl rfl hmoe hopen
    refine ⟨hlen, ?_⟩
    show (if (entryOf op o s).len = 0 then some 0 else none) = _
    rw [if_pos hlen]
  rw [issue_send op sps s o ho hi hq ha hl, hsend, settle_enqueue_operate _ _ _ hqo (sentEntry_len op o s hq.2.1 hl) hm rfl rfl
    hiota, State.spend_vp, hf.2.1]
  rfl

end Sys2Proof.Machine
end

