-- ==== Sys2Proof/Laws/Record.lean ====
section
/-! SUPPORT. What an instruction that accesses no memory leaves, element by element, and the record of its arithmetic
exceptions, in the terms claims use. -/

namespace Sys2Proof.Machine

/-- Bit `b` of a union over a list of elements. -/
theorem getLsbD_foldTypes (act : Nat → Bool) (f : Fin 64 → Elem) (l : List (Fin 64)) (m : AexSet) (b : Nat) :
    (l.foldl (fun (t : AexSet) (i : Fin 64) => if act i.val then t ||| (f i).types else t) m).getLsbD b = true ↔
      m.getLsbD b = true ∨ ∃ i ∈ l, act i.val = true ∧ (f i).types.getLsbD b = true := by
  induction l generalizing m with
  | nil => simp
  | cons i l ih =>
    rw [List.foldl_cons, ih]
    cases ha : act i.val <;> simp [ha, or_assoc]

/-- A type is in the union exactly where some active element raised it. -/
theorem getLsbD_unionTypes (act : Nat → Bool) (f : Fin 64 → Elem) (b : Nat) :
    (unionTypes act f).getLsbD b = true ↔ ∃ i : Fin 64, act i.val = true ∧ (f i).types.getLsbD b = true := by
  rw [unionTypes, getLsbD_foldTypes]
  simp

/-- Recording a union of types, in the terms claims use (R186, R312). -/
theorem recorded_recordAex (act : Nat → Bool) (f : Fin 64 → Elem) (dest : Option (BitVec 4)) (p q : Vp)
    (hv : q.vaer = p.vaer) (hs : q.vpsr = p.vpsr) (ha : q.aexPending = p.aexPending) :
    Recorded (fun k => if act k.val then (f k).types else 0) dest p (q.recordAex (unionTypes act f) dest) := by
  refine ⟨unionTypes act f, ?_, ?_, ?_⟩
  · intro b
    rw [getLsbD_unionTypes]
    refine exists_congr fun i => ?_
    by_cases h : act i.val = true <;> simp [h]
  · intro h0
    rw [h0, Vp.recordAex_zero]
    exact ⟨hv, hs, ha⟩
  · intro h0
    unfold Vp.recordAex
    rw [if_neg h0, hv, hs]
    refine ⟨?_, rfl, rfl⟩
    cases dest <;> rfl

/-- What an executed instruction records (R185, R186, R312). -/
theorem recorded_executed (e : QEntry) (p : Vp) :
    Recorded (fun k => if (View.openElems ⟨p, {}⟩ e).getLsbD k.val then ((effectOf e p).elem k).types else 0)
      (recordDest e) p (executed e p) := by
  have h := recorded_recordAex (fun i => (View.openElems ⟨p, {}⟩ e).getLsbD i) (effectOf e p).elem (recordDest e) p p
    rfl rfl rfl
  unfold executed
  rw [settle_frame]
  exact h

/-- The instruction's destination register after settling it, element by element (R22). -/
theorem elem_settleReg (e : QEntry) (s p : Vp) (i : Fin 64) :
    (e.settleReg s p).elem (fieldC e.cntrl) i = if e.written.getLsbD i then e.result i else p.elem (fieldC e.cntrl) i :=
  Vp.elem_setReg_same p (fieldC e.cntrl) _ i

/-- What an instruction goes into is as the registers are but in its own destination (R22). -/
theorem elem_onto_other (e : QEntry) (p : Vp) (r : BitVec 4) (i : Fin 64) (h : r ≠ fieldC e.cntrl) :
    (e.onto p).elem r i = p.elem r i := by
  have hn : (fieldC e.cntrl).toNat ≠ r.toNat := fun h' => h (BitVec.eq_of_toNat_eq h'.symm)
  have hr : r.toNat < 16 := r.isLt
  unfold QEntry.onto
  split
  · rfl
  · simp only [Vp.elem, Vp.overlay_v, Vector.getElem_ofFn, Fin.getElem_fin]
    split <;> simp [Vector.getElem_set_ne _ _ hn]

/-- Settling an instruction touches no other register (R22). -/
theorem elem_settle_other (e : QEntry) (p : Vp) (r : BitVec 4) (i : Fin 64) (h : r ≠ fieldC e.cntrl) :
    (e.settle p).elem r i = p.elem r i := by
  rw [← elem_onto_other e p r i h, QEntry.settle]
  generalize e.sees p = s
  generalize e.onto p = q
  have hr : (e.settleReg s q).elem r i = q.elem r i := Vp.elem_setReg_other q (fieldC e.cntrl) r _ i h
  obtain ⟨op, _⟩ := e
  cases op
  case mtvp r => cases r <;> rfl
  all_goals first | exact hr | rfl

/-- Settling an instruction that writes no vector register leaves them all alone. -/
theorem v_settleOn (e : QEntry) (s p : Vp) (h : e.op.writesReg = false) : (e.settleOn s p).v = p.v := by
  obtain ⟨op, _⟩ := e
  cases op
  case mtvp r => cases r <;> rfl
  all_goals first | rfl | cases h

theorem zero_or_mask (m : Quad) : 0 ||| m = m := BitVec.zero_or

/-- A finished element's result. -/
theorem finishElems_res (e : QEntry) (w : View) (m : Quad) (i : Fin 64) :
    (finishElems e w m).res[i] = if m.getLsbD i then ((effectOf e w.p).elem i).val else e.res[i] := by
  simp [finishElems]

/-- The destination register after settling, for an instruction that has one (R277). -/
theorem elem_settleOn (e : QEntry) (s p : Vp) (hw : e.op.writesReg = true) (i : Fin 64) :
    (e.settleOn s p).elem (fieldC e.cntrl) i =
      if e.written.getLsbD i then e.result i else p.elem (fieldC e.cntrl) i := by
  rw [← elem_settleReg e s]
  obtain ⟨op, _⟩ := e
  cases op
  all_goals first | rfl | cases hw

/-- VMR after settling a compare (R234, R310). -/
theorem vmr_settleOn (e : QEntry) (s p : Vp) (hw : e.op.writesMask = true) (i : Fin 64) :
    (e.settleOn s p).vmr.getLsbD i = if e.done.getLsbD i then (e.res[i]).getLsbD 0 else p.vmr.getLsbD i := by
  have h : (e.settleOn s p).vmr = maskOf fun i =>
      if h : i < 64 then (if e.done.getLsbD i then (e.res[i]).getLsbD 0 else p.vmr.getLsbD i) else false := by
    obtain ⟨op, _⟩ := e
    cases op
    all_goals first | rfl | cases hw
  rw [h, getLsbD_maskOf]
  simp only [i.isLt, decide_true, Bool.true_and, dif_pos]
  rfl

/-- The dependences of the destination register after settling (R190, R194). -/
theorem taint_settleOn (e : QEntry) (s p : Vp) (hw : e.op.writesReg = true) :
    (e.settleOn s p).taint.v[(fieldC e.cntrl).toNat] = e.taintDest s (p.taint.v[(fieldC e.cntrl).toNat]) := by
  have h : (e.settleReg s p).taint.v[(fieldC e.cntrl).toNat] = e.taintDest s (p.taint.v[(fieldC e.cntrl).toNat]) :=
    Vector.getElem_set_self _
  rw [← h]
  obtain ⟨op, _⟩ := e
  cases op
  all_goals first | rfl | cases hw

/-- The dependences of VMR after settling a compare (R190, R194). -/
theorem taint_settleOn_mask (e : QEntry) (s p : Vp) (hw : e.op.writesMask = true) :
    (e.settleOn s p).taint.vmr = e.taintDest s p.taint.vmr := by
  obtain ⟨op, _⟩ := e
  cases op
  all_goals first | rfl | cases hw

/-- The dependence of an element that an instruction has written, be it unfinished (R225): its own, and below VLR, with masks,
that of its mask bit (R191, R192, R194). -/
theorem getLsbD_taintDest (e : QEntry) (p : Vp) (old : Quad) (i : Fin 64) (hw : e.written.getLsbD i = true) :
    (e.taintDest p old).getLsbD i =
      (e.tainted.getLsbD i || (moe e.cntrl && decide (i < e.len.toNat) && p.taint.vmr.getLsbD i)) := by
  rw [QEntry.taintDest, getLsbD_maskOf, if_pos hw, hw]
  simp

/-- The dependence of an element that an instruction finishes: its own exception, its sources, its mask bit. -/
theorem finishElems_tainted (e : QEntry) (w : View) (m : Quad) (i : Fin 64) (ht : e.tainted = 0)
    (hi : m.getLsbD i = true) :
    (finishElems e w m).tainted.getLsbD i =
      (decide (((effectOf e w.p).elem i).types ≠ 0) || (effectOf e w.p).src i ||
        (moe e.cntrl && w.p.taint.vmr.getLsbD i)) := by
  show (e.tainted ||| maskOf _).getLsbD i = _
  rw [ht, zero_or_mask, getLsbD_maskOf]
  simp only [i.isLt, decide_true, Bool.true_and, dif_pos, hi]

/-- Recording exceptions leaves alone what depends on what. -/
theorem recordAex_taint (ts : AexSet) (d : Option (BitVec 4)) (p : Vp) : (p.recordAex ts d).taint = p.taint := by
  unfold Vp.recordAex
  split <;> rfl

/-- A finished element has taken in its mask bit already. -/
theorem or_mask_absorb (a m l t : Bool) : (a || (m && t) || (m && l && t)) = (a || (m && t)) := by
  cases a <;> cases m <;> cases l <;> cases t <;> rfl

variable (e : QEntry) (p : Vp) (hc : e.copy = none)
include hc

/-- What an executed instruction, one that VPSR<STS> has not stored, makes of the registers. -/
theorem executed_none :
    let m := View.openElems ⟨p, {}⟩ e
    let q := p.recordAex (unionTypes (fun i => m.getLsbD i) (effectOf e p).elem) (recordDest e)
    executed e p = (finishElems e ⟨p, {}⟩ m).settleOn q q :=
  settle_none (by exact hc) _

variable (hd : e.done = 0)
include hd

/-- The elements of the destination register of an executed instruction (R180, R277). -/
theorem elem_executed (hw : e.op.writesReg = true) (hs : e.sameRegister = false) (i : Fin 64) :
    (executed e p).elem (fieldC e.cntrl) i =
      if (View.openElems ⟨p, {}⟩ e).getLsbD i then ((effectOf e p).elem i).val else p.elem (fieldC e.cntrl) i := by
  rw [executed_none e p hc]
  refine (elem_settleOn (finishElems e _ _) _ _ hw i).trans ?_
  rw [written_eq (finishElems e _ _) hs, result_eq (finishElems e _ _) hs, finishElems_res, finishElems_done, hd, zero_or_mask, finishElems_cntrl,
    Vp.elem_recordAex]
  split <;> simp_all

/-- The mask bits after a compare (R234, R310). -/
theorem vmr_executed (hw : e.op.writesMask = true) (i : Fin 64) :
    (executed e p).vmr.getLsbD i =
      if (View.openElems ⟨p, {}⟩ e).getLsbD i then (((effectOf e p).elem i).val).getLsbD 0 else p.vmr.getLsbD i := by
  rw [executed_none e p hc]
  refine (vmr_settleOn (finishElems e _ _) _ _ hw i).trans ?_
  rw [finishElems_res, finishElems_done, hd, zero_or_mask, Vp.vmr_recordAex]
  split <;> simp_all

/-- The dependence of an element that an executed instruction has processed (R190, R191, R194). -/
theorem tainted_executed (hw : e.op.writesReg = true) (ht : e.tainted = 0) (i : Fin 64)
    (hi : (View.openElems ⟨p, {}⟩ e).getLsbD i = true) :
    (executed e p).tainted (fieldC e.cntrl) i =
      (decide (((effectOf e p).elem i).types ≠ 0) || (effectOf e p).src i ||
        (moe e.cntrl && p.taint.vmr.getLsbD i)) := by
  rw [executed_none e p hc]
  refine (congrArg (fun m : Quad => m.getLsbD i) (taint_settleOn (finishElems e _ _) _ _ hw)).trans ?_
  rw [getLsbD_taintDest _ _ _ _ (getLsbD_written _ i (by rw [finishElems_done, hd, zero_or_mask]; exact hi)),
    finishElems_tainted _ _ _ _ ht hi, recordAex_taint]
  exact or_mask_absorb _ _ _ _

/-- The dependence of a mask bit that a compare has written (R190, R191, R194). -/
theorem tainted_executed_mask (hw : e.op.writesMask = true) (ht : e.tainted = 0) (i : Fin 64)
    (hi : (View.openElems ⟨p, {}⟩ e).getLsbD i = true) :
    (executed e p).taint.vmr.getLsbD i =
      (decide (((effectOf e p).elem i).types ≠ 0) || (effectOf e p).src i ||
        (moe e.cntrl && p.taint.vmr.getLsbD i)) := by
  rw [executed_none e p hc]
  refine (congrArg (fun m : Quad => m.getLsbD i) (taint_settleOn_mask (finishElems e _ _) _ _ hw)).trans ?_
  rw [getLsbD_taintDest _ _ _ _ (getLsbD_written _ i (by rw [finishElems_done, hd, zero_or_mask]; exact hi)),
    finishElems_tainted _ _ _ _ ht hi, recordAex_taint]
  exact or_mask_absorb _ _ _ _

omit hc hd

/-- An element is active exactly where it is open in what is sent (R181). -/
theorem active_iff (op : VOp) (s : State) (o : Operands) (k : Fin 64) (hq : s.vp.queue = []) (hu : op.usesLength = true) :
    Active s o k ↔ (View.openElems ⟨s.vp, {}⟩ (sentEntry op o s)).getLsbD k.val = true := by
  have ha : (sentEntry op o s).isActive s.vp.vmr k = active (controlWord o) s.vp.vlr s.vp.vmr k := by
    have hc : (sentEntry op o s).cntrl = controlWord o := if_pos hu
    have hl : (sentEntry op o s).len = s.vp.vlr := (if_pos hu).trans (currentLength_empty _ hq)
    unfold QEntry.isActive
    rw [hc, hl]
  have hd : (sentEntry op o s).done.getLsbD k = false := BitVec.getLsbD_zero
  have hl : (sentEntry op o s).left.getLsbD k = false := BitVec.getLsbD_zero
  rw [getLsbD_openElems, sees_none rfl, ha, hd, hl]
  simp only [k.isLt, decide_true, Bool.true_and, Bool.not_false]
  unfold Active active moe mtf
  cases h1 : (controlWord o).getLsbD 15 <;> simp

end Sys2Proof.Machine
end

