-- ==== Sys2Proof/Laws/References.lean ====
section
/-! SUPPORT. The references of a vector memory instruction: when all pass, what the checks collect, and the move that
follows. -/

namespace Sys2Proof.Machine

/-- Where every listed element's reference passes, the checks collect their addresses and nothing else. -/
theorem gatherRefs_ok (s : State) (e : QEntry) (ad : Addressing) (size : Nat) (write : Bool)
    (pa : Fin 64 → Nat) (is : List (Fin 64))
    (h : ∀ i ∈ is, ∀ pick, checkRef s e.mode write size (vectorRow s e pick (elemAddress ad e s.vp i))
      (elemAddress ad e s.vp i) = .ok (pa i)) :
    (gatherRefs s e s.vp ad size write is).oks = is.map (fun i => (i.val, pa i)) ∧
      (gatherRefs s e s.vp ad size write is).faults = [] ∧ (gatherRefs s e s.vp ad size write is).refusal = none := by
  induction is with
  | nil => exact ⟨rfl, rfl, rfl⟩
  | cons i is ih =>
    obtain ⟨h1, h2, h3⟩ := ih fun j hj => h j (List.mem_cons_of_mem _ hj)
    have hi := h i (List.mem_cons_self ..) (rowDraw e.draw i)
    simp only [gatherRefs, hi, List.map_cons, h1, h2, h3]
    exact ⟨trivial, trivial, trivial⟩

/-- What the checks of a list of references can collect. -/
theorem gatherRefs_mem (s : State) (e : QEntry) (ad : Addressing) (size : Nat) (write : Bool)
    (is : List (Fin 64)) :
    let check := fun pick i => checkRef s e.mode write size (vectorRow s e pick (elemAddress ad e s.vp i))
      (elemAddress ad e s.vp i)
    (∀ x ∈ (gatherRefs s e s.vp ad size write is).oks, ∃ i ∈ is, ∃ pick, x.1 = i.val ∧ check pick i = .ok x.2) ∧
    (∀ f ∈ (gatherRefs s e s.vp ad size write is).faults, ∃ i ∈ is, ∃ pick fs, check pick i = .fails fs ∧ f ∈ fs) ∧
    (∀ r, (gatherRefs s e s.vp ad size write is).refusal = some r → ∃ i ∈ is, ∃ pick, check pick i = .refused r) := by
  intro check
  induction is with
  | nil => refine ⟨?_, ?_, ?_⟩ <;> simp [gatherRefs]
  | cons i is ih =>
    obtain ⟨h1, h2, h3⟩ := ih
    simp only [gatherRefs]
    cases hc : checkRef s e.mode write size (vectorRow s e (rowDraw e.draw i) (elemAddress ad e s.vp i))
        (elemAddress ad e s.vp i) with
    | ok a =>
      refine ⟨?_, ?_, ?_⟩
      · intro x hx
        rcases List.mem_cons.mp hx with rfl | hx
        · exact ⟨i, List.mem_cons_self .., _, rfl, hc⟩
        · obtain ⟨j, hj, p, hp⟩ := h1 x hx
          exact ⟨j, List.mem_cons_of_mem _ hj, p, hp⟩
      · intro f hf
        obtain ⟨j, hj, p, fs, hp⟩ := h2 f hf
        exact ⟨j, List.mem_cons_of_mem _ hj, p, fs, hp⟩
      · intro r hr
        obtain ⟨j, hj, p, hp⟩ := h3 r hr
        exact ⟨j, List.mem_cons_of_mem _ hj, p, hp⟩
    | fails fs =>
      refine ⟨?_, ?_, ?_⟩
      · intro x hx
        obtain ⟨j, hj, p, hp⟩ := h1 x hx
        exact ⟨j, List.mem_cons_of_mem _ hj, p, hp⟩
      · intro f hf
        rcases List.mem_append.mp hf with hf | hf
        · exact ⟨i, List.mem_cons_self .., _, fs, hc, hf⟩
        · obtain ⟨j, hj, p, gs, hp⟩ := h2 f hf
          exact ⟨j, List.mem_cons_of_mem _ hj, p, gs, hp⟩
      · intro r hr
        obtain ⟨j, hj, p, hp⟩ := h3 r hr
        exact ⟨j, List.mem_cons_of_mem _ hj, p, hp⟩
    | refused r' =>
      refine ⟨?_, ?_, ?_⟩
      · intro x hx
        obtain ⟨j, hj, p, hp⟩ := h1 x hx
        exact ⟨j, List.mem_cons_of_mem _ hj, p, hp⟩
      · intro f hf
        obtain ⟨j, hj, p, gs, hp⟩ := h2 f hf
        exact ⟨j, List.mem_cons_of_mem _ hj, p, gs, hp⟩
      · intro r hr
        exact ⟨i, List.mem_cons_self .., _, hc.trans (congrArg _ (Option.some.inj hr))⟩

/-- A listed element whose reference fails under every cached translation leaves an exception to report. -/
theorem gatherRefs_fails (s : State) (e : QEntry) (ad : Addressing) (size : Nat) (write : Bool)
    (is : List (Fin 64)) (k : Fin 64) (hk : k ∈ is)
    (h : ∀ pick, ∃ fs, checkRef s e.mode write size (vectorRow s e pick (elemAddress ad e s.vp k))
      (elemAddress ad e s.vp k) = .fails fs ∧ fs ≠ []) :
    (gatherRefs s e s.vp ad size write is).faults ≠ [] := by
  induction is with
  | nil => cases hk
  | cons i is ih =>
    simp only [gatherRefs]
    rcases List.mem_cons.mp hk with rfl | hk
    · obtain ⟨fs, hc, hfs⟩ := h (rowDraw e.draw k)
      simp only [hc]
      exact fun h0 => hfs (List.append_eq_nil_iff.mp h0).1
    · have := ih hk
      split
      · exact this
      · exact fun h0 => this (List.append_eq_nil_iff.mp h0).2
      · exact this

/-- A failing check always names an exception. -/
theorem checkRef_fails_ne (s : State) (mode : BitVec 2) (write : Bool) (size : Nat) (row : Option MapRow) (va : Long)
    (fs : List MmFault) (h : checkRef s mode write size row va = .fails fs) : fs ≠ [] := by
  unfold checkRef at h
  simp only [] at h
  split at h
  · rename_i hv
    cases h
    intro h0
    simp [h0] at hv
  · split at h
    · cases h
    · cases h
      exact List.cons_ne_nil _ _
    · cases h

/-- One of the exceptions that apply is reported. -/
theorem pickFault_mem (n : Nat) (fs : List MmFault) (h : fs ≠ []) : ∃ f ∈ fs, pickFault n fs = some f := by
  match fs with
  | [] => exact absurd rfl h
  | [f] => exact ⟨f, List.mem_singleton_self f, rfl⟩
  | f :: g :: fs =>
    have hl : (miscDraw n 0).toNat % (f :: g :: fs).length < (f :: g :: fs).length := Nat.mod_lt _ (by simp)
    exact ⟨(f :: g :: fs)[(miscDraw n 0).toNat % (f :: g :: fs).length], List.getElem_mem hl,
      List.getElem?_eq_getElem hl⟩

/-- The elements of a mask. -/
theorem mem_elemsOf (m : Quad) (k : Fin 64) : k ∈ elemsOf m ↔ m.getLsbD k = true := by
  simp [elemsOf]

/-- With every vector write visible, the vector processor reads memory (R82). -/
theorem vectorRead_empty (s : State) (a n : Nat) (h : s.vp.vbuf = []) : s.vectorRead a n = s.mem.readLE a n := by
  induction n generalizing a with
  | zero => rfl
  | succ n ih =>
    have hb : s.vectorByte a = s.mem.read a := by simp [State.vectorByte, h, lastCell]
    rw [State.vectorRead, Memory.readLE, hb, ih]

/-- Cutting a list into pieces loses and moves nothing. -/
theorem chunks_flatten {α : Type} (n k : Nat) (l : List α) : (chunks n k l).flatten = l := by
  induction k generalizing l with
  | zero => simp [chunks]
  | succ k ih =>
    rw [chunks]
    split
    · simp
    · rw [List.flatten_cons, ih, List.take_append_drop]

/-- The checks look at the configuration, the page tables, the memory-management registers and the translation buffer. -/
theorem gatherRefs_congr (s t : State) (e : QEntry) (p : Vp) (ad : Addressing) (size : Nat) (write : Bool)
    (is : List (Fin 64)) (hc : t.cfg = s.cfg) (hm : t.pageMap = s.pageMap) (hr : t.cpu.mm = s.cpu.mm)
    (hmm : t.vp.mm = s.vp.mm) (htb : t.vp.tb = s.vp.tb) :
    gatherRefs t e p ad size write is = gatherRefs s e p ad size write is := by
  have h1 : ∀ va, walkRow t va = walkRow s va := by
    intro va
    unfold walkRow vectorRegs
    rw [hc, hm, hr, hmm]
  have h2 : ∀ pick va, vectorRow t e pick va = vectorRow s e pick va := by
    intro pick va
    unfold vectorRow staleRows
    simp only [h1, hc, htb]
  have h3 : ∀ row va, checkRef t e.mode write size row va = checkRef s e.mode write size row va := by
    intro row va
    simp only [checkRef, hc]
  induction is with
  | nil => rfl
  | cons i is ih => simp only [gatherRefs, ih, h1, h2, h3]

end Sys2Proof.Machine
end

