-- ==== Sys2Proof/Laws/Moves.lean ====
section
/-! SUPPORT. Vector memory instructions: what a move can answer, what executing elements can answer, and issue under prompt
execution and the asynchronous method. -/

namespace Sys2Proof.Machine

/-- What a move changes of an entry: what is finished, with what value, on what it depends, what is still as an exception left
it, its accesses, and how far a retry has come. -/
def QEntry.OnlyProgress (e e' : QEntry) : Prop :=
  e' = { e with
    done := e'.done, res := e'.res, tainted := e'.tainted, parts := e'.parts, early := e'.early, phase := e'.phase, spoil := e'.spoil }

/-- A reference that has been retried changes only how far the retry has come (R415). -/
theorem resume_frame (e : QEntry) (w : View) : e.resume w = { e with phase := (e.resume w).phase } := by
  unfold QEntry.resume
  split <;> rfl

theorem resume_progress (e e' : QEntry) (w : View) (h : e.OnlyProgress e') : e.OnlyProgress (e'.resume w) := by
  rw [resume_frame]
  exact congrArg (fun x : QEntry => { x with phase := (e'.resume w).phase }) h

/-- What a load can answer: a refusal of a reference, an exception of one, or the elements loaded; of its entry, only
what is finished, with what value, on what it depends, and the accesses change. -/
theorem moveLoad_cases (sz : ElemSize) (ad : Addressing) (w : View) (e : QEntry) (m : Quad) (part : Option Nat) (s : State) :
    let refs := moveRefs s e w.p ad sz.bytes false m
    (∃ r, refs.refusal = some r ∧ moveLoad sz ad w e m part s = .refused r) ∨
    (refs.refusal = none ∧ ∃ f, pickFault e.draw refs.faults = some f ∧
      moveLoad sz ad w e m part s = .failed f (loadTb s refs.rows) e) ∨
    (refs.refusal = none ∧ pickFault e.draw refs.faults = none ∧ ∃ e',
      moveLoad sz ad w e m part s = .ok (loadTb s refs.rows) e' ∧
      e.OnlyProgress e') := by
  intro refs
  cases hr : refs.refusal with
  | some r => exact .inl ⟨r, rfl, by unfold moveLoad; simp only [refs] at hr; simp only [hr]⟩
  | none =>
    refine .inr ?_
    cases hf : pickFault e.draw refs.faults with
    | some f => exact .inl ⟨rfl, f, rfl, by unfold moveLoad; simp only [refs] at hr hf; simp only [hr, hf]; rfl⟩
    | none =>
      refine .inr ⟨rfl, rfl, ?_⟩
      unfold moveLoad
      simp only [refs] at hr hf
      simp only [hr, hf]
      exact ⟨_, rfl, by exact rfl⟩

/-- What a store can answer: a refusal, an exception with some of the passing elements written, or the elements written. -/
theorem moveStore_cases (sz : ElemSize) (ad : Addressing) (w : View) (e : QEntry) (m : Quad) (part : Option Nat) (s : State) :
    let refs := moveRefs s e w.p ad sz.bytes true m
    (∃ r, refs.refusal = some r ∧ moveStore sz ad w e m part s = .refused r) ∨
    (refs.refusal = none ∧ overOperands sz.bytes e refs.oks = true ∧
      moveStore sz ad w e m part s = .refused .storeOverlapsOperands) ∨
    (refs.refusal = none ∧ overOperands sz.bytes e refs.oks = false ∧ ∃ f, pickFault e.draw refs.faults = some f ∧
      let early := partlyStored e.draw refs.oks
      moveStore sz ad w e m part s =
        .failed f (storeElems sz ad e w.p none early (loadTb s refs.rows)) (markEarly s.cfg sz ad e w.p early)) ∨
    (refs.refusal = none ∧ overOperands sz.bytes e refs.oks = false ∧ pickFault e.draw refs.faults = none ∧ ∃ e',
      moveStore sz ad w e m part s = .ok (storeElems sz ad e w.p part refs.oks (loadTb s refs.rows)) e' ∧
      e.OnlyProgress e') := by
  intro refs
  cases hr : refs.refusal with
  | some r => exact .inl ⟨r, rfl, by unfold moveStore; simp only [refs] at hr; simp only [hr]⟩
  | none =>
    refine .inr ?_
    cases ho : overOperands sz.bytes e refs.oks with
    | true => exact .inl ⟨rfl, rfl, by unfold moveStore; simp only [refs] at hr ho; simp only [hr, ho, if_true]⟩
    | false =>
      refine .inr ?_
      cases hf : pickFault e.draw refs.faults with
      | some f =>
        refine .inl ⟨rfl, rfl, f, rfl, ?_⟩
        unfold moveStore
        simp only [refs] at hr ho hf
        simp only [hr, ho, hf, Bool.false_eq_true, if_false]
        rfl
      | none =>
        refine .inr ⟨rfl, rfl, rfl, ?_⟩
        unfold moveStore
        simp only [refs] at hr ho hf
        simp only [hr, ho, hf, Bool.false_eq_true, if_false]
        exact ⟨_, rfl, by exact rfl⟩

/-- What checking all references of an instruction can answer: a refusal, an exception, or that they pass (R174, R356). -/
theorem examine_cases (sz : ElemSize) (ad : Addressing) (write : Bool) (w : View) (e : QEntry) (s : State) :
    let refs := gatherRefs s e w.p ad sz.bytes write (elemsOf (w.openElems e))
    (∃ r, examine sz ad write w e s = .refused r) ∨
    (∃ f, pickFault e.draw refs.faults = some f ∧ examine sz ad write w e s = .failed f (loadTb s refs.rows) e) ∨
    (refs.refusal = none ∧ pickFault e.draw refs.faults = none ∧
      examine sz ad write w e s = .ok (loadTb s refs.rows) { e with checked := some refs.oks }) := by
  intro refs
  unfold examine
  simp only [refs]
  split
  · exact .inl ⟨_, rfl⟩
  · rename_i hr
    split
    · exact .inl ⟨_, rfl⟩
    · split
      · rename_i f hf
        exact .inr (.inl ⟨f, hf, rfl⟩)
      · rename_i hf
        exact .inr (.inr ⟨hr, hf, rfl⟩)

/-- `t` is `s` but for the translation buffer and vector writes that the scalar processor does not see yet. -/
def OnlyMoves (s t : State) : Prop :=
  t = { s with vp := { s.vp with tb := t.vp.tb, vbuf := t.vp.vbuf }, vstores := t.vstores }

theorem OnlyMoves.refl (s : State) : OnlyMoves s s := rfl

/-- What taking in translations changes. -/
theorem loadTb_onlyMoves (s : State) (rows : List MapRow) : OnlyMoves s (loadTb s rows) := by
  unfold loadTb
  split <;> rfl

/-- What storing elements changes. -/
theorem storeElems_onlyMoves (sz : ElemSize) (ad : Addressing) (e : QEntry) (p : Vp) (part : Option Nat)
    (oks : List (Nat × Nat)) (s t : State) (h : OnlyMoves s t) : OnlyMoves s (storeElems sz ad e p part oks t) := by
  unfold storeElems
  generalize oks.flatMap (storeUnits t.cfg sz ad e p oks part) = us
  exact congrArg (fun x : State => { x with
    vp := { x.vp with vbuf := t.vp.vbuf ++ us }, vstores := us.flatten.map Prod.fst ++ t.vstores }) h

/-- Executing elements of an entry, once everything it can do: nothing; a register-to-register instruction; or a vector
memory instruction, which goes on or is suspended. -/
theorem runElems_cases (k : Nat) (m : Quad) (part : Option Nat) (s t : State) (h : runElems k m part s = .next t) :
    t = s ∨ ∃ e, s.vp.queue[k]? = some e ∧
      ((e.op.isMemory = false ∧ ∃ now, t = operate k (viewAt s k e) e now s) ∨
        (e.op.isMemory = true ∧ ∃ s', OnlyMoves s s' ∧
          ∃ e', e.OnlyProgress e' ∧ (t = s'.putEntry k e' ∨ ∃ f, t = suspend k (viewAt s k e) e' f s'))) := by
  unfold runElems at h
  cases he : s.vp.queue[k]? with
  | none => rw [he] at h; exact .inl (Host.Outcome.next.inj h).symm
  | some e =>
    simp only [he] at h
    split at h
    · exact .inl (Host.Outcome.next.inj h).symm
    · refine .inr ⟨e, rfl, ?_⟩
      split at h
      · rename_i sz ad hop
        refine .inr ⟨by rw [hop]; rfl, ?_⟩
        rcases moveLoad_cases sz ad (viewAt s k e) e (runnable s k (viewAt s k e) e &&& m) part s with
          ⟨r, -, hc⟩ | ⟨-, f, -, hc⟩ | ⟨-, -, e', hc, he'⟩ <;> rw [hc] at h <;> cases h
        · exact ⟨_, loadTb_onlyMoves s _, e, rfl, .inr ⟨f, rfl⟩⟩
        · exact ⟨_, loadTb_onlyMoves s _, _, resume_progress _ _ _ he', .inl rfl⟩
      · rename_i sz ad hop
        refine .inr ⟨by rw [hop]; rfl, ?_⟩
        rcases moveStore_cases sz ad (viewAt s k e) e (runnable s k (viewAt s k e) e &&& m) part s with
          ⟨r, -, hc⟩ | ⟨-, -, hc⟩ | ⟨-, -, f, -, hc⟩ | ⟨-, -, -, e', hc, he'⟩ <;> rw [hc] at h <;> cases h
        · exact ⟨_, storeElems_onlyMoves _ _ _ _ _ _ _ _ (loadTb_onlyMoves s _), _, by exact rfl, .inr ⟨f, rfl⟩⟩
        · exact ⟨_, storeElems_onlyMoves _ _ _ _ _ _ _ _ (loadTb_onlyMoves s _), _, resume_progress _ _ _ he', .inl rfl⟩
      · rename_i hl hs
        refine .inl ⟨?_, _, (Host.Outcome.next.inj h).symm⟩
        cases hop : e.op <;> first | rfl | exact absurd hop (hl _ _) | exact absurd hop (hs _ _)

/-- Checking the references of an entry, once everything it can do: nothing, or a memory instruction is checked or
suspended (R356, R413). -/
theorem checkEntry_cases (k : Nat) (s t : State) (h : checkEntry k s = .next t) :
    t = s ∨ ∃ e, s.vp.queue[k]? = some e ∧ e.op.isMemory = true ∧ ∃ s', OnlyMoves s s' ∧
      ((∃ l x, t = s'.putEntry k { e with checked := some l, phase := x }) ∨ ∃ f, t = suspend k (viewAt s k e) e f s') := by
  unfold checkEntry at h
  split at h
  · exact .inl (Host.Outcome.next.inj h).symm
  · rename_i e he
    split at h
    · exact .inl (Host.Outcome.next.inj h).symm
    · rename_i sz ad write hop
      refine .inr ⟨e, he, ?_, ?_⟩
      · cases ho : e.op <;> first | rfl | (rw [ho] at hop; cases hop)
      · rcases examine_cases sz ad write (viewAt s k e) e s with ⟨r, hc⟩ | ⟨f, -, hc⟩ | ⟨-, -, hc⟩ <;> rw [hc] at h <;> cases h
        · exact ⟨_, loadTb_onlyMoves s _, .inr ⟨f, rfl⟩⟩
        · exact ⟨_, loadTb_onlyMoves s _, .inl ⟨_, _, congrArg _ (resume_frame _ _)⟩⟩

/-- ISSUE of a vector memory instruction, asynchronous method, on an idle vector processor: where no element is active
nothing happens, else its active elements are executed and what it writes becomes visible. -/
theorem issue_move (op : VOp) (sps : List Spec) (s : State) (o : Operands)
    (ho : evalOperands 2 op.accesses sps s = .ok o) (hi : Issuable s) (hq : Quiet s) (ha : Acceptable op sps o s)
    (hl : s.vp.vlr.toNat ≤ 64) (hasync : s.cfg.isAsync = true) :
    let e := sentEntry op o s
    let queued := fun e : QEntry =>
      { afterOperands o with vp := { s.vp with queue := [e] }, draws := o.state.draws + 512 }
    (View.openElems ⟨s.vp, {}⟩ e = 0 →
      issue op sps s = .next { afterOperands o with vp := e.settle s.vp, draws := o.state.draws + 512 }) ∧
    (View.openElems ⟨s.vp, {}⟩ e ≠ 0 →
      issue op sps s = andThen (runElems 0 allElements none (queued { e with started := true })) fun t => .next t.flushVector) := by
  intro e queued
  have hf := (evalOperands_frame _ _ _ _ _ ho).fields
  obtain ⟨h1, h2, h3, h4⟩ := hq
  have hvp : o.state.spend.vp = s.vp := by rw [State.spend_vp, hf.2.1]
  have hsched : o.state.spend.sched = [] := hf.2.2.2.2.2.2.1.trans h1
  have hsend : issue op sps s =
      andThen (drain (enqueue e o.next o.state.spend)) fun t => .next t.flushVector := by
    rw [issue_send op sps s o ho hi ⟨h1, h2, h3, h4⟩ ha fun _ => hl]
    have hc : o.state.spend.cfg.isAsync = true := by
      have : o.state.cfg = s.cfg := hf.1
      exact (congrArg Config.isAsync this).trans hasync
    unfold send
    rw [queueFull_empty o.state (by rw [hf.2.1]; exact h2)]
    simp only [Bool.false_eq_true, if_false, hc]
    show settle (enqueue e o.next o.state.spend) = _
    unfold settle
    have : (enqueue e o.next o.state.spend).sched.isEmpty = true := by
      show o.state.spend.sched.isEmpty = true
      rw [hsched]; rfl
    rw [if_pos this]
  constructor
  · intro hopen
    have hx : (e.settle s.vp).queue = [] ∧ (e.settle s.vp).vbuf = [] := by
      rw [settle_frame]; exact ⟨h2, h3⟩
    have he := enqueue_complete e o.next o.state.spend (by rw [hvp]; exact h2) (by rw [hvp]; exact hopen)
    rw [hvp] at he
    rw [hsend, drain_empty _ (by rw [he]; exact hx.1), andThen_next, flushVector_empty _ (by rw [he]; exact hx.2)]
    exact congrArg (fun p => Host.Outcome.next { afterOperands o with vp := p, draws := o.state.draws + 512 }) he
  · intro hopen
    have he := enqueue_open e o.next o.state.spend (by rw [hvp]; exact h2) (by rw [hvp]; exact hopen)
    rw [hvp] at he
    have hb : enqueue e o.next o.state.spend = queued e :=
      congrArg (fun p => { afterOperands o with vp := p, draws := o.state.draws + 512 }) he
    rw [hsend, hb, drain_single (queued e) e rfl rfl h4, startTo_single (queued e) e rfl]
    rfl

end Sys2Proof.Machine
end

