-- ==== Sys2Proof/Laws/Steps.lean ====
section
/-! SUPPORT. What a step, an instruction, issue and an event between instructions can be: one inversion lemma for each. -/

namespace Sys2Proof.Machine

/-- A step, once everything it can do: what comes in between, then a vector instruction, a scalar one, or what becomes of
bytes that are none. -/
theorem step_cases {s t : State} (h : step s = .next t) :
    ∃ s', advance s = .next s' ∧
      ((∃ i, fetchDecode s' = .vector i ∧ exec i s' = .next t) ∨
        (∃ i, fetchDecode s' = .scalar i ∧ execScalar i s' = .next t) ∨ fetchDecode s' = .out (.next t)) := by
  obtain ⟨s', hs, ht⟩ := (andThen_eq_next _ _ _).mp h
  refine ⟨s', hs, ?_⟩
  cases hd : fetchDecode s' with
  | vector i => exact .inl ⟨i, rfl, by simpa only [hd] using ht⟩
  | scalar i => exact .inr (.inl ⟨i, rfl, by simpa only [hd] using ht⟩)
  | out o =>
    rw [hd] at ht
    exact .inr (.inr (congrArg FetchResult.out ht))

/-- Every instruction is issued, by its operation or by its register number, or is an MFVP. -/
theorem exec_cases (i : Instr) (s : State) :
    (∃ op sps, exec i s = issue op sps s) ∨ (∃ accs sel sps, exec i s = issueByRegnum accs sel sps s) ∨
      ∃ sel sps, exec i s = issueMfvp sel sps s := by
  cases i <;> first
    | exact .inl ⟨_, _, rfl⟩
    | (simp only [exec, execMfvp, execMfvcr, execMfvlr, execMfvmrlo, execMfvmrhi, execSync, execMsync]
       exact .inr (.inr ⟨_, _, rfl⟩))
    | (simp only [exec, execVsync, execMtvp]
       exact .inr (.inl ⟨_, _, _, rfl⟩))

/-- Evaluated operands, or an exception on them, or none needed as there is no vector processor. -/
theorem withVectorOperands_cases {accs : List Access} {sps : List Spec} {s t : State} {f : Operands → Out}
    (h : withVectorOperands accs sps s f = .next t) :
    (∃ x, takeException x s = .next t) ∨ ∃ o, evalOperands 2 accs sps s = .ok o ∧ f o = .next t := by
  unfold withVectorOperands at h
  split at h
  · exact .inl ⟨_, h⟩
  · split at h
    · cases h
    · exact .inl ⟨_, h⟩
  · rename_i o ho
    exact .inr ⟨o, ho, h⟩

/-- Being turned away is an exception taken on the instruction, on the registers as they are. -/
theorem turnedAway_cases {s t : State} (h : turnedAway s = some (.next t)) :
    ∃ x u, takeException x u = .next t ∧ u = { s with
      cpu := { s.cpu with afterDisabled := u.cpu.afterDisabled }, vp := u.vp, saved := u.saved } := by
  unfold turnedAway at h
  split at h
  · exact ⟨_, s, Option.some.inj h, rfl⟩
  · split at h
    · exact ⟨.disabled, { s.reported with cpu := { s.cpu with afterDisabled := true } }, Option.some.inj h, rfl⟩
    · split at h
      · exact ⟨_, _, Option.some.inj h, rfl⟩
      · split at h <;> cases h

/-- Sending an instruction whose operation is known: nothing the spec refuses, the retry and the wait for room, then the
queue. -/
theorem issueOp_cases {op : VOp} {sps : List Spec} {o : Operands} {s t : State} (h : issueOp op sps o s = .next t) :
    refusalOf op sps (entryOf op o s) = none ∧
      ∃ u, readyToSend o.state = .next u ∧ send (entryOf op o s) o.next s u = .next t := by
  unfold issueOp at h
  simp only at h
  split at h
  · cases h
  · rename_i hr
    exact ⟨hr, (andThen_eq_next _ _ _).mp h⟩

/-- ISSUE, once everything it can do. -/
theorem issue_cases {op : VOp} {sps : List Spec} {s t : State} (h : issue op sps s = .next t) :
    (∃ x u, takeException x u = .next t ∧ u = { s with
      cpu := { s.cpu with afterDisabled := u.cpu.afterDisabled }, vp := u.vp, saved := u.saved }) ∨
      ∃ o, evalOperands 2 op.accesses sps s = .ok o ∧ turnedAway s = none ∧ issueOp op sps o s = .next t := by
  rcases withVectorOperands_cases h with ⟨x, hx⟩ | ⟨o, ho, ht⟩
  · exact .inl ⟨x, s, hx, rfl⟩
  · split at ht
    · rename_i out hout
      subst ht
      exact .inl (turnedAway_cases hout)
    · rename_i hn
      exact .inr ⟨o, ho, hn, ht⟩

/-- What happens between two instructions: an entry starts and executes elements, a hardware error is reported, or only what is
visible to whom, which write becomes visible within the next instruction, S_VEN, what an earlier clear may still show and the marks of hardware errors change. -/
theorem happen_cases {ev : Event} {s t : State} (h : happen ev s = .next t) :
    (∃ k m part, t = s ∨ runElems k m part (s.startTo k) = .next t) ∨ reportHardware s = .next t ∨
      t = { s with
        mem := t.mem
        cpu := { s.cpu with wbuf := t.cpu.wbuf, venSeen := t.cpu.venSeen, afterDisabled := t.cpu.afterDisabled }
        races := t.races
        vp := { s.vp with
          vbuf := t.vp.vbuf, hwMem := t.vp.hwMem, hwOp := t.vp.hwOp, halted := t.vp.halted, vaerOld := t.vp.vaerOld
          aexLate := t.vp.aexLate } } := by
  cases ev with
  | run k elems part =>
    refine .inl ?_
    simp only [happen, runEntry] at h
    split at h
    · exact ⟨0, 0, none, .inl (Host.Outcome.next.inj h).symm⟩
    · split at h
      · exact ⟨k, _, part, .inr h⟩
      · exact ⟨0, 0, none, .inl (Host.Outcome.next.inj h).symm⟩
  | scalarVisible j =>
    simp only [happen] at h
    split at h <;> cases h <;> exact .inr (.inr rfl)
  | vectorVisible j =>
    simp only [happen] at h
    split at h <;> cases h <;> exact .inr (.inr rfl)
  | visibleAtRead n j =>
    simp only [happen] at h
    split at h <;> cases h <;> exact .inr (.inr rfl)
  | venFollows => cases h; exact .inr (.inr rfl)
  | venStale => cases h; exact .inr (.inr rfl)
  | clearTakesEffect => cases h; exact .inr (.inr rfl)
  | hardwareError memory stops => cases h; exact .inr (.inr rfl)
  | hardwareReport =>
    simp only [happen] at h
    split at h
    · exact .inr (.inl h)
    · cases h; exact .inr (.inr rfl)

/-- An entry that may not run does nothing (R53, R172, R413). -/
theorem runEntry_of_not_mayRun {s : State} {k : Nat} {e : QEntry} (he : s.vp.queue[k]? = some e) (h : mayRun s k e = false)
    (elems : Option Quad) (part : Option Nat) : runEntry k elems part s = .next s := by
  simp only [runEntry, he, h, Bool.false_eq_true, if_false]

/-- With nothing of an earlier MTPR to VPSR outstanding an MFPR has nothing to complete (R381). -/
theorem completeMtpr_none (s : State) (h1 : s.vp.vaerOld = 0) (h2 : s.vp.aexLate = false) (h3 : s.vp.storing = []) :
    completeMtpr s = s := by
  have hv : ({ s.vp with vaerOld := 0, aexLate := false, storing := [] } : Vp) = s.vp := by rw [← h1, ← h2, ← h3]
  show (let t := s.vp.storing.foldl _ s.clearNow; t.setVp { t.vp with storing := [] }) = s
  rw [h3]
  exact congrArg (fun p => { s with vp := p }) hv

/-- What giving up an instruction changes: the vector registers, VLR, VMR, VCR, and what they depend on (R373, R423). -/
theorem giveUp_frame (chaining : Bool) (p : Vp) (x : View × QEntry) :
    giveUp chaining p x = { p with
      v := (giveUp chaining p x).v, vlr := (giveUp chaining p x).vlr, vmr := (giveUp chaining p x).vmr
      vcr := (giveUp chaining p x).vcr, taint := (giveUp chaining p x).taint } := by
  have h := settle_frame (givenUp chaining x.1 p x.2) p
  unfold giveUp
  generalize (givenUp chaining x.1 p x.2).settle p = q at h ⊢
  rw [h]

/-- What giving up everything pending changes: the vector registers, VLR, VMR, VCR, what they depend on, and the queue
(R373). -/
theorem discardPending_frame (s : State) :
    discardPending s = { s.vp with
      v := (discardPending s).v, vlr := (discardPending s).vlr, vmr := (discardPending s).vmr
      vcr := (discardPending s).vcr, taint := (discardPending s).taint, queue := [] } := by
  have all : ∀ (l : List (View × QEntry)) (p : Vp),
      let q := l.foldl (giveUp s.cfg.chaining) p
      q = { p with v := q.v, vlr := q.vlr, vmr := q.vmr, vcr := q.vcr, taint := q.taint } := by
    intro l
    induction l with
    | nil => exact fun _ => rfl
    | cons x l ih =>
      intro p
      simp only [List.foldl_cons]
      have h := ih (giveUp s.cfg.chaining p x)
      have hs := giveUp_frame s.cfg.chaining p x
      generalize giveUp s.cfg.chaining p x = r at h hs ⊢
      simp only at h ⊢
      generalize l.foldl _ r = q at h ⊢
      rw [h, hs]
  have h := all (entryViews s) s.vp
  unfold discardPending
  exact congrArg (fun p : Vp => { p with queue := [] }) h

/-- What starting, executing elements and checking references keep, a wait keeps (R351). -/
theorem pursue_keeps (P : State → Prop) (hstart : ∀ k s, P s → P (s.startTo k))
    (hrun : ∀ k m s t, P s → runElems k m none s = .next t → P t)
    (hcheck : ∀ k s t, P s → checkEntry k s = .next t → P t) (stop : State → Bool) (goal : State → Goal) {s t : State}
    (hs : P s) (h : pursue stop goal s = .next t) : P t := by
  unfold pursue at h
  generalize 66 * s.vp.queue.length = fuel at h
  induction fuel generalizing s with
  | zero => cases h; exact hs
  | succ fuel ih =>
    unfold pursueFuel at h
    split at h
    · cases h; exact hs
    · split at h
      · obtain ⟨u, hu, ht⟩ := (andThen_eq_next _ _ _).mp h
        exact ih (hrun _ _ _ _ (hstart _ _ hs) hu) ht
      · obtain ⟨u, hu, ht⟩ := (andThen_eq_next _ _ _).mp h
        exact ih (hcheck _ _ _ (hstart _ _ hs) hu) ht
      · cases h; exact hs

/-- What the events of a plan keep, a plan keeps. -/
theorem happenAll_keeps (P : State → Prop) {evs : List Event} (hev : ∀ ev ∈ evs, ∀ s t, P s → happen ev s = .next t → P t)
    {s t : State} (hs : P s) (h : happenAll evs s = .next t) : P t := by
  induction evs generalizing s with
  | nil => cases h; exact hs
  | cons ev evs ih =>
    obtain ⟨u, hu, ht⟩ := (andThen_eq_next _ _ _).mp h
    exact ih (fun ev h => hev ev (List.mem_cons_of_mem _ h)) (hev ev List.mem_cons_self _ _ hs hu) ht

/-- What taking the next plan and the events that a wait lets happen keep, waiting for a retry keeps (R107). -/
theorem whileRetrying_keeps (P : State → Prop) (hplan : ∀ s ps, P s → P { s with sched := ps })
    (hev : ∀ ev : Event, ev.duringWait = true → ∀ s t, P s → happen ev s = .next t → P t) {s t : State} (hs : P s)
    (h : whileRetrying s = .next t) : P t := by
  unfold whileRetrying at h
  split at h
  · split at h
    · cases h; exact hs
    · exact happenAll_keeps P (fun ev hm => hev ev (List.mem_filter.mp hm).2) (hplan _ _ hs) h
  · cases h; exact hs

/-- What starting and executing elements keep, waiting for room in the queue keeps, but for the plan that goes with a retry
(R173). -/
theorem makeRoomFuel_keeps (P : State → Prop) (hstart : ∀ k s, P s → P (s.startTo k))
    (hrun : ∀ k m s t, P s → runElems k m none s = .next t → P t) {fuel : Nat} {s t : State} (hs : P s)
    (h : makeRoomFuel fuel s = .next t) : P t := by
  induction fuel generalizing s with
  | zero => cases h; exact hs
  | succ fuel ih =>
    unfold makeRoomFuel at h
    split at h
    · split at h
      · exact ih (hstart _ _ hs) h
      · obtain ⟨u, hu, ht⟩ := (andThen_eq_next _ _ _).mp h
        exact ih (hrun _ _ _ _ hs hu) ht
      · cases h; exact hs
    · cases h; exact hs

/-- What starting and executing elements keep, executing all that can keeps (R199). -/
theorem drain_keeps (P : State → Prop) (hstart : ∀ k s, P s → P (s.startTo k))
    (hrun : ∀ k m s t, P s → runElems k m none s = .next t → P t) {s t : State}
    (hs : P s) (h : drain s = .next t) : P t := by
  unfold drain at h
  generalize s.vp.queue.length = fuel at h
  generalize 0 = k at h
  induction fuel generalizing s k with
  | zero => cases h; exact hs
  | succ fuel ih =>
    obtain ⟨u, hu, ht⟩ := (andThen_eq_next _ _ _).mp h
    refine ih ?_ _ ht
    unfold runEntry at hu
    split at hu
    · cases hu; exact hs
    · split at hu
      · exact hrun _ _ _ _ (hstart _ _ hs) hu
      · cases hu; exact hs

end Sys2Proof.Machine
end

