-- ==== Sys2Proof/Tests/Slice0.lean ====
section
/-! SUPPORT. The model's own tests: what WellFormed refuses, words written out from the spec's encodings, and one-step
tests whose expected values are the spec's (spec/95_test_vectors.md, vector numbers T and X in the docstrings). -/

namespace Sys2Proof.Tests

open Sys2Proof Sys2Proof.Machine

set_option maxRecDepth 20000

/-! ### WellFormed -/

theorem test_wellFormed_refuses_autoincrement_of_pc :
    Instr.wellFormed {} (.vldl (.immediate 0) (.mem (.autoinc 15)) (.literal 4)) = false := by decide

theorem test_wellFormed_refuses_autoincrement_deferred_of_pc :
    Instr.wellFormed {} (.vldl (.immediate 0) (.indexed 1 (.autoincDef 15)) (.literal 4)) = false := by decide

theorem test_wellFormed_refuses_wide_constant :
    Instr.wellFormed {} (.vvaddl (.immediate 0x10000)) = false ∧
      Instr.wellFormed {} (.vsaddl (.immediate 0) (.immediate 0x100000000)) = false := by decide

theorem test_wellFormed_refuses_wrong_form :
    Instr.wellFormed {} (.vvgtrl (.immediate 1)) = false ∧ Instr.wellFormed {} (.vvcmpl (.immediate 1)) = false ∧
      Instr.wellFormed {} (.vvgtrl (.reg 3)) = false := by decide

theorem test_wellFormed_refuses_wrong_register_number :
    Instr.wellFormed {} (.mtvlr (.literal 2) (.literal 4)) = false ∧
      Instr.wellFormed {} (.mtvp (.literal 1) (.literal 4)) = false := by decide

theorem test_wellFormed_refuses_wrong_count :
    specsWellFormed [.rw, .rl] [.literal 1] = false ∧ specsWellFormed [.rw] [.literal 1, .literal 2] = false := by decide

theorem test_wellFormed_accepts :
    Instr.wellFormed {} (.vvaddl (.immediate 0xFFFF)) = true ∧ Instr.wellFormed {} (.vvcmpl (.reg 3)) = true ∧
      Instr.wellFormed {} (.vvgeql (.immediate 6)) = true := by decide

/-! ### Words, written out from R130 to R158 and T1 of spec/95_test_vectors.md -/

/-- The bytes decode to the instruction, which is well formed and encodes to them. -/
def wordOk (p : List Byte × Instr) : Bool :=
  decide (decodeBytes {} p.1 = .ok (.vector p.2, [])) && decide (encode p.2 = p.1) && p.2.wellFormed {}

theorem test_words_control : ([
    ([0xFD, 0x31, 0x52, 0x51], .mfvp (.reg 2) (.reg 1)),
    ([0xFD, 0xA8, 0x00], .vsync (.literal 0)),
    ([0xFD, 0xA9, 0x52, 0x0A], .mtvp (.reg 2) (.literal 10)),
    ([0xFD, 0x31, 0x00, 0x51], .mfvcr (.literal 0) (.reg 1)),
    ([0xFD, 0x31, 0x01, 0x51], .mfvlr (.literal 1) (.reg 1)),
    ([0xFD, 0x31, 0x02, 0x51], .mfvmrlo (.literal 2) (.reg 1)),
    ([0xFD, 0x31, 0x03, 0x51], .mfvmrhi (.literal 3) (.reg 1)),
    ([0xFD, 0x31, 0x04, 0x51], .sync (.literal 4) (.reg 1)),
    ([0xFD, 0x31, 0x05, 0x9F, 0x00, 0x30, 0x00, 0x00], .msync (.literal 5) (.mem (.absolute 0x3000))),
    ([0xFD, 0xA9, 0x00, 0x0A], .mtvcr (.literal 0) (.literal 10)),
    ([0xFD, 0xA9, 0x01, 0x8F, 0x40, 0x00, 0x00, 0x00], .mtvlr (.literal 1) (.immediate 64)),
    ([0xFD, 0xA9, 0x02, 0x8F, 0xFF, 0xFF, 0x00, 0x00], .mtvmrlo (.literal 2) (.immediate 0xFFFF)),
    ([0xFD, 0xA9, 0x03, 0x0A], .mtvmrhi (.literal 3) (.literal 10))] : List (List Byte × Instr)).all wordOk = true := by decide

theorem test_words_memory : ([
    ([0xFD, 0x34, 0x8F, 0x01, 0x20, 0x9F, 0x00, 0x10, 0x00, 0x00, 0x04], .vldl (.immediate 0x2001) (.mem (.absolute 0x1000)) (.literal 4)),
    ([0xFD, 0x35, 0x8F, 0x54, 0x00, 0xD1, 0x34, 0x12], .vgathl (.immediate 0x0054) (.mem (.disp16Def 1 0x1234))),
    ([0xFD, 0x36, 0x8F, 0x01, 0x00, 0x46, 0x61, 0x8F, 0xFC, 0xFF, 0xFF, 0xFF], .vldq (.immediate 0x0001) (.indexed 6 (.deferred 1)) (.immediate 0xFFFFFFFC)),
    ([0xFD, 0x37, 0x8F, 0x54, 0x00, 0xA3, 0x08], .vgathq (.immediate 0x0054) (.mem (.disp8 3 8))),
    ([0xFD, 0x9C, 0x8F, 0x01, 0x00, 0x82, 0x8F, 0xFC, 0xFF, 0xFF, 0xFF], .vstl (.immediate 0x0001) (.mem (.autoinc 2)) (.immediate 0xFFFFFFFC)),
    ([0xFD, 0x9D, 0x8F, 0x21, 0x00, 0xEF, 0x78, 0x56, 0x34, 0x12], .vscatl (.immediate 0x0021) (.mem (.disp32 15 0x12345678))),
    ([0xFD, 0x9E, 0x8F, 0x07, 0x80, 0x7E, 0x55], .vstq (.immediate 0x8007) (.mem (.autodec 14)) (.reg 5)),
    ([0xFD, 0x9F, 0x8F, 0x21, 0x00, 0x9F, 0x00, 0x20, 0x00, 0x00], .vscatq (.immediate 0x0021) (.mem (.absolute 0x2000)))] : List (List Byte × Instr)).all wordOk = true := by decide

theorem test_words_integer : ([
    ([0xFD, 0x80, 0x8F, 0x23, 0x01], .vvaddl (.immediate 0x0123)),
    ([0xFD, 0x81, 0x8F, 0x01, 0x20, 0x56], .vsaddl (.immediate 0x2001) (.reg 6)),
    ([0xFD, 0x88, 0x8F, 0x23, 0x01], .vvsubl (.immediate 0x0123)),
    ([0xFD, 0x89, 0x8F, 0x23, 0x00, 0x0A], .vssubl (.immediate 0x0023) (.literal 10)),
    ([0xFD, 0xA0, 0x8F, 0x23, 0x01], .vvmull (.immediate 0x0123)),
    ([0xFD, 0xA1, 0x8F, 0x23, 0x00, 0x0A], .vsmull (.immediate 0x0023) (.literal 10))] : List (List Byte × Instr)).all wordOk = true := by decide

theorem test_words_floating_g : ([
    ([0xFD, 0x82, 0x8F, 0x23, 0x01], .vvaddg (.immediate 0x0123)),
    ([0xFD, 0x83, 0x8F, 0x23, 0x00, 0x8F, 0x10, 0x40, 0x00, 0x00, 0x00, 0x00, 0x00, 0x00], .vsaddg (.immediate 0x0023) (.immediate 0x4010)),
    ([0xFD, 0x8A, 0x8F, 0x12, 0xA0], .vvsubg (.immediate 0xA012)),
    ([0xFD, 0x8B, 0x8F, 0x23, 0x00, 0x8F, 0x10, 0x40, 0x00, 0x00, 0x00, 0x00, 0x00, 0x00], .vssubg (.immediate 0x0023) (.immediate 0x4010)),
    ([0xFD, 0xA2, 0x8F, 0x23, 0x01], .vvmulg (.immediate 0x0123)),
    ([0xFD, 0xA3, 0x8F, 0x23, 0x00, 0x8F, 0x10, 0x40, 0x00, 0x00, 0x00, 0x00, 0x00, 0x00], .vsmulg (.immediate 0x0023) (.immediate 0x4010)),
    ([0xFD, 0xAA, 0x8F, 0x23, 0x01], .vvdivg (.immediate 0x0123)),
    ([0xFD, 0xAB, 0x8F, 0x23, 0x00, 0x8F, 0x10, 0x40, 0x00, 0x00, 0x00, 0x00, 0x00, 0x00], .vsdivg (.immediate 0x0023) (.immediate 0x4010))] : List (List Byte × Instr)).all wordOk = true := by decide

theorem test_words_floating_f : ([
    ([0xFD, 0x84, 0x8F, 0x12, 0xC0], .vvaddf (.immediate 0xC012)),
    ([0xFD, 0x85, 0x8F, 0x23, 0x00, 0x8F, 0x80, 0x40, 0x00, 0x00], .vsaddf (.immediate 0x0023) (.immediate 0x4080)),
    ([0xFD, 0x8C, 0x8F, 0x23, 0x01], .vvsubf (.immediate 0x0123)),
    ([0xFD, 0x8D, 0x8F, 0x23, 0x00, 0x8F, 0x80, 0x40, 0x00, 0x00], .vssubf (.immediate 0x0023) (.immediate 0x4080)),
    ([0xFD, 0xA4, 0x8F, 0x23, 0x01], .vvmulf (.immediate 0x0123)),
    ([0xFD, 0xA5, 0x8F, 0x23, 0x00, 0x8F, 0x80, 0x40, 0x00, 0x00], .vsmulf (.immediate 0x0023) (.immediate 0x4080)),
    ([0xFD, 0xAC, 0x8F, 0x23, 0x01], .vvdivf (.immediate 0x0123)),
    ([0xFD, 0xAD, 0x8F, 0x23, 0x00, 0x8F, 0x80, 0x40, 0x00, 0x00], .vsdivf (.immediate 0x0023) (.immediate 0x4080))] : List (List Byte × Instr)).all wordOk = true := by decide

theorem test_words_floating_d : ([
    ([0xFD, 0x86, 0x8F, 0x23, 0x01], .vvaddd (.immediate 0x0123)),
    ([0xFD, 0x87, 0x8F, 0x23, 0x00, 0x8F, 0x00, 0x41, 0x00, 0x00, 0x00, 0x00, 0x00, 0x00], .vsaddd (.immediate 0x0023) (.immediate 0x4100)),
    ([0xFD, 0x8E, 0x8F, 0x23, 0x01], .vvsubd (.immediate 0x0123)),
    ([0xFD, 0x8F, 0x8F, 0x23, 0x00, 0x8F, 0x00, 0x41, 0x00, 0x00, 0x00, 0x00, 0x00, 0x00], .vssubd (.immediate 0x0023) (.immediate 0x4100)),
    ([0xFD, 0xA6, 0x8F, 0x23, 0x01], .vvmuld (.immediate 0x0123)),
    ([0xFD, 0xA7, 0x8F, 0x23, 0x00, 0x52], .vsmuld (.immediate 0x0023) (.reg 2)),
    ([0xFD, 0xAE, 0x8F, 0x23, 0x01], .vvdivd (.immediate 0x0123)),
    ([0xFD, 0xAF, 0x8F, 0x23, 0x00, 0x8F, 0x00, 0x41, 0x00, 0x00, 0x00, 0x00, 0x00, 0x00], .vsdivd (.immediate 0x0023) (.immediate 0x4100))] : List (List Byte × Instr)).all wordOk = true := by decide

theorem test_words_compare_l_1 : ([
    ([0xFD, 0xC0, 0x53], .vvcmpl (.reg 3)),
    ([0xFD, 0xC1, 0x53, 0x0A], .vscmpl (.reg 3) (.literal 10)),
    ([0xFD, 0xC0, 0x8F, 0x20, 0x01], .vvgtrl (.immediate 0x0120)),
    ([0xFD, 0xC0, 0x8F, 0x21, 0x01], .vveqll (.immediate 0x0121)),
    ([0xFD, 0xC0, 0x8F, 0x22, 0x01], .vvlssl (.immediate 0x0122)),
    ([0xFD, 0xC0, 0x8F, 0x24, 0x01], .vvleql (.immediate 0x0124)),
    ([0xFD, 0xC0, 0x8F, 0x25, 0x01], .vvneql (.immediate 0x0125)),
    ([0xFD, 0xC0, 0x8F, 0x26, 0x01], .vvgeql (.immediate 0x0126)),
    ([0xFD, 0xC1, 0x8F, 0x20, 0x00, 0x0A], .vsgtrl (.immediate 0x0020) (.literal 10)),
    ([0xFD, 0xC1, 0x8F, 0x21, 0x00, 0x0A], .vseqll (.immediate 0x0021) (.literal 10)),
    ([0xFD, 0xC1, 0x8F, 0x22, 0x00, 0x0A], .vslssl (.immediate 0x0022) (.literal 10)),
    ([0xFD, 0xC1, 0x8F, 0x24, 0x00, 0x0A], .vsleql (.immediate 0x0024) (.literal 10)),
    ([0xFD, 0xC1, 0x8F, 0x25, 0x00, 0x0A], .vsneql (.immediate 0x0025) (.literal 10))] : List (List Byte × Instr)).all wordOk = true := by decide

theorem test_words_compare_l_2 : ([
    ([0xFD, 0xC1, 0x8F, 0x26, 0x00, 0x0A], .vsgeql (.immediate 0x0026) (.literal 10))] : List (List Byte × Instr)).all wordOk = true := by decide

theorem test_words_compare_g_1 : ([
    ([0xFD, 0xC2, 0x53], .vvcmpg (.reg 3)),
    ([0xFD, 0xC3, 0x53, 0x8F, 0x10, 0x40, 0x00, 0x00, 0x00, 0x00, 0x00, 0x00], .vscmpg (.reg 3) (.immediate 0x4010)),
    ([0xFD, 0xC2, 0x8F, 0x20, 0x01], .vvgtrg (.immediate 0x0120)),
    ([0xFD, 0xC2, 0x8F, 0x21, 0x01], .vveqlg (.immediate 0x0121)),
    ([0xFD, 0xC2, 0x8F, 0x22, 0x01], .vvlssg (.immediate 0x0122)),
    ([0xFD, 0xC2, 0x8F, 0x24, 0x01], .vvleqg (.immediate 0x0124)),
    ([0xFD, 0xC2, 0x8F, 0x25, 0x01], .vvneqg (.immediate 0x0125)),
    ([0xFD, 0xC2, 0x8F, 0x26, 0x01], .vvgeqg (.immediate 0x0126)),
    ([0xFD, 0xC3, 0x8F, 0x20, 0x00, 0x8F, 0x10, 0x40, 0x00, 0x00, 0x00, 0x00, 0x00, 0x00], .vsgtrg (.immediate 0x0020) (.immediate 0x4010)),
    ([0xFD, 0xC3, 0x8F, 0x21, 0x00, 0x8F, 0x10, 0x40, 0x00, 0x00, 0x00, 0x00, 0x00, 0x00], .vseqlg (.immediate 0x0021) (.immediate 0x4010)),
    ([0xFD, 0xC3, 0x8F, 0x22, 0x00, 0x8F, 0x10, 0x40, 0x00, 0x00, 0x00, 0x00, 0x00, 0x00], .vslssg (.immediate 0x0022) (.immediate 0x4010)),
    ([0xFD, 0xC3, 0x8F, 0x24, 0x00, 0x8F, 0x10, 0x40, 0x00, 0x00, 0x00, 0x00, 0x00, 0x00], .vsleqg (.immediate 0x0024) (.immediate 0x4010)),
    ([0xFD, 0xC3, 0x8F, 0x25, 0x00, 0x8F, 0x10, 0x40, 0x00, 0x00, 0x00, 0x00, 0x00, 0x00], .vsneqg (.immediate 0x0025) (.immediate 0x4010))] : List (List Byte × Instr)).all wordOk = true := by decide

theorem test_words_compare_g_2 : ([
    ([0xFD, 0xC3, 0x8F, 0x26, 0x00, 0x8F, 0x10, 0x40, 0x00, 0x00, 0x00, 0x00, 0x00, 0x00], .vsgeqg (.immediate 0x0026) (.immediate 0x4010))] : List (List Byte × Instr)).all wordOk = true := by decide

theorem test_words_compare_f_1 : ([
    ([0xFD, 0xC4, 0x53], .vvcmpf (.reg 3)),
    ([0xFD, 0xC5, 0x53, 0x8F, 0x80, 0x40, 0x00, 0x00], .vscmpf (.reg 3) (.immediate 0x4080)),
    ([0xFD, 0xC4, 0x8F, 0x20, 0x01], .vvgtrf (.immediate 0x0120)),
    ([0xFD, 0xC4, 0x8F, 0x21, 0x01], .vveqlf (.immediate 0x0121)),
    ([0xFD, 0xC4, 0x8F, 0x22, 0x01], .vvlssf (.immediate 0x0122)),
    ([0xFD, 0xC4, 0x8F, 0x24, 0x01], .vvleqf (.immediate 0x0124)),
    ([0xFD, 0xC4, 0x8F, 0x25, 0x01], .vvneqf (.immediate 0x0125)),
    ([0xFD, 0xC4, 0x8F, 0x26, 0x01], .vvgeqf (.immediate 0x0126)),
    ([0xFD, 0xC5, 0x8F, 0x20, 0x00, 0x8F, 0x80, 0x40, 0x00, 0x00], .vsgtrf (.immediate 0x0020) (.immediate 0x4080)),
    ([0xFD, 0xC5, 0x8F, 0x21, 0x00, 0x8F, 0x80, 0x40, 0x00, 0x00], .vseqlf (.immediate 0x0021) (.immediate 0x4080)),
    ([0xFD, 0xC5, 0x8F, 0x22, 0x00, 0x8F, 0x80, 0x40, 0x00, 0x00], .vslssf (.immediate 0x0022) (.immediate 0x4080)),
    ([0xFD, 0xC5, 0x8F, 0x24, 0x00, 0x8F, 0x80, 0x40, 0x00, 0x00], .vsleqf (.immediate 0x0024) (.immediate 0x4080)),
    ([0xFD, 0xC5, 0x8F, 0x25, 0x00, 0x8F, 0x80, 0x40, 0x00, 0x00], .vsneqf (.immediate 0x0025) (.immediate 0x4080))] : List (List Byte × Instr)).all wordOk = true := by decide

theorem test_words_compare_f_2 : ([
    ([0xFD, 0xC5, 0x8F, 0x26, 0x00, 0x8F, 0x80, 0x40, 0x00, 0x00], .vsgeqf (.immediate 0x0026) (.immediate 0x4080))] : List (List Byte × Instr)).all wordOk = true := by decide

theorem test_words_compare_d_1 : ([
    ([0xFD, 0xC6, 0x53], .vvcmpd (.reg 3)),
    ([0xFD, 0xC7, 0x53, 0x8F, 0x00, 0x41, 0x00, 0x00, 0x00, 0x00, 0x00, 0x00], .vscmpd (.reg 3) (.immediate 0x4100)),
    ([0xFD, 0xC6, 0x8F, 0x20, 0x01], .vvgtrd (.immediate 0x0120)),
    ([0xFD, 0xC6, 0x8F, 0x21, 0x01], .vveqld (.immediate 0x0121)),
    ([0xFD, 0xC6, 0x8F, 0x22, 0x01], .vvlssd (.immediate 0x0122)),
    ([0xFD, 0xC6, 0x8F, 0x24, 0x01], .vvleqd (.immediate 0x0124)),
    ([0xFD, 0xC6, 0x8F, 0x25, 0x01], .vvneqd (.immediate 0x0125)),
    ([0xFD, 0xC6, 0x8F, 0x26, 0x01], .vvgeqd (.immediate 0x0126)),
    ([0xFD, 0xC7, 0x8F, 0x20, 0x00, 0x8F, 0x00, 0x41, 0x00, 0x00, 0x00, 0x00, 0x00, 0x00], .vsgtrd (.immediate 0x0020) (.immediate 0x4100)),
    ([0xFD, 0xC7, 0x8F, 0x21, 0x00, 0x8F, 0x00, 0x41, 0x00, 0x00, 0x00, 0x00, 0x00, 0x00], .vseqld (.immediate 0x0021) (.immediate 0x4100)),
    ([0xFD, 0xC7, 0x8F, 0x22, 0x00, 0x8F, 0x00, 0x41, 0x00, 0x00, 0x00, 0x00, 0x00, 0x00], .vslssd (.immediate 0x0022) (.immediate 0x4100)),
    ([0xFD, 0xC7, 0x8F, 0x24, 0x00, 0x8F, 0x00, 0x41, 0x00, 0x00, 0x00, 0x00, 0x00, 0x00], .vsleqd (.immediate 0x0024) (.immediate 0x4100)),
    ([0xFD, 0xC7, 0x8F, 0x25, 0x00, 0x8F, 0x00, 0x41, 0x00, 0x00, 0x00, 0x00, 0x00, 0x00], .vsneqd (.immediate 0x0025) (.immediate 0x4100))] : List (List Byte × Instr)).all wordOk = true := by decide

theorem test_words_compare_d_2 : ([
    ([0xFD, 0xC7, 0x8F, 0x26, 0x00, 0x8F, 0x00, 0x41, 0x00, 0x00, 0x00, 0x00, 0x00, 0x00], .vsgeqd (.immediate 0x0026) (.immediate 0x4100))] : List (List Byte × Instr)).all wordOk = true := by decide

theorem test_words_logical : ([
    ([0xFD, 0xC8, 0x8F, 0x23, 0x01], .vvbisl (.immediate 0x0123)),
    ([0xFD, 0xC9, 0x8F, 0x23, 0x00, 0x0A], .vsbisl (.immediate 0x0023) (.literal 10)),
    ([0xFD, 0xCC, 0x8F, 0x23, 0x01], .vvbicl (.immediate 0x0123)),
    ([0xFD, 0xCD, 0x8F, 0x23, 0x00, 0x8F, 0x00, 0xFF, 0xFF, 0xFF], .vsbicl (.immediate 0x0023) (.immediate 0xFFFFFF00)),
    ([0xFD, 0xE0, 0x8F, 0x23, 0x01], .vvsrll (.immediate 0x0123)),
    ([0xFD, 0xE1, 0x8F, 0x23, 0x00, 0x0A], .vssrll (.immediate 0x0023) (.literal 10)),
    ([0xFD, 0xE4, 0x8F, 0x23, 0x01], .vvslll (.immediate 0x0123)),
    ([0xFD, 0xE5, 0x8F, 0x23, 0x00, 0x0A], .vsslll (.immediate 0x0023) (.literal 10)),
    ([0xFD, 0xE8, 0x8F, 0x23, 0x01], .vvxorl (.immediate 0x0123)),
    ([0xFD, 0xE9, 0x8F, 0x23, 0x00, 0x0A], .vsxorl (.immediate 0x0023) (.literal 10))] : List (List Byte × Instr)).all wordOk = true := by decide

theorem test_words_convert_1 : ([
    ([0xFD, 0xEC, 0x53], .vvcvt (.reg 3)),
    ([0xFD, 0xEC, 0x8F, 0x23, 0x01], .vvcvtlf (.immediate 0x0123)),
    ([0xFD, 0xEC, 0x8F, 0x23, 0x02], .vvcvtld (.immediate 0x0223)),
    ([0xFD, 0xEC, 0x8F, 0x23, 0x03], .vvcvtlg (.immediate 0x0323)),
    ([0xFD, 0xEC, 0x8F, 0x23, 0x04], .vvcvtfl (.immediate 0x0423)),
    ([0xFD, 0xEC, 0x8F, 0x23, 0x05], .vvcvtrfl (.immediate 0x0523)),
    ([0xFD, 0xEC, 0x8F, 0x23, 0x06], .vvcvtfd (.immediate 0x0623)),
    ([0xFD, 0xEC, 0x8F, 0x23, 0x07], .vvcvtfg (.immediate 0x0723)),
    ([0xFD, 0xEC, 0x8F, 0x23, 0x08], .vvcvtdl (.immediate 0x0823)),
    ([0xFD, 0xEC, 0x8F, 0x23, 0x09], .vvcvtdf (.immediate 0x0923)),
    ([0xFD, 0xEC, 0x8F, 0x23, 0x0A], .vvcvtrdl (.immediate 0x0A23)),
    ([0xFD, 0xEC, 0x8F, 0x23, 0x0C], .vvcvtgl (.immediate 0x0C23)),
    ([0xFD, 0xEC, 0x8F, 0x23, 0x0D], .vvcvtgf (.immediate 0x0D23))] : List (List Byte × Instr)).all wordOk = true := by decide

theorem test_words_convert_2 : ([
    ([0xFD, 0xEC, 0x8F, 0x23, 0x0F], .vvcvtrgl (.immediate 0x0F23))] : List (List Byte × Instr)).all wordOk = true := by decide

theorem test_words_edit : ([
    ([0xFD, 0xED, 0x8F, 0x05, 0x40, 0x8F, 0xFC, 0xFF, 0xFF, 0xFF], .iota (.immediate 0x4005) (.immediate 0xFFFFFFFC)),
    ([0xFD, 0xEE, 0x8F, 0x23, 0x41], .vvmerge (.immediate 0x4123)),
    ([0xFD, 0xEF, 0x8F, 0x23, 0x40, 0x8F, 0xEF, 0xCD, 0xAB, 0x89, 0x67, 0x45, 0x23, 0x01], .vsmerge (.immediate 0x4023) (.immediate 0x0123456789ABCDEF))] : List (List Byte × Instr)).all wordOk = true := by decide


/-- FD 32, FD 90 and FD FF are illegal vector opcodes (T1 (b)); a literal as a base address decodes, and the reserved
mode is found at issue (R407). -/
theorem test_words_illegal :
    decodeBytes {} [0xFD, 0x32] = .error (.illegalVectorOpcode 0x32) ∧
    decodeBytes {} [0xFD, 0x90, 0x00] = .error (.illegalVectorOpcode 0x90) ∧
    decodeBytes {} [0xFD, 0xFF] = .error (.illegalVectorOpcode 0xFF) ∧
    decodeBytes {} [0xD0, 0x01, 0x50] = .error (.scalarOpcode 0xD0) ∧
    decodeBytes {} [0xFD, 0x80, 0x8F, 0x23] = .error .truncated ∧
    decodeBytes {} [0xFD, 0x80, 0x41, 0x52] = .error .reservedMode := by decide

/-- MFPR #^X90, R0; MTPR #1, #^X90; REI (H4 of spec/95_test_vectors.md). -/
theorem test_words_scalar :
    decodeBytes {} [0xDB, 0x8F, 0x90, 0x00, 0x00, 0x00, 0x50] = .ok (.scalar (.mfpr (.immediate 0x90) (.reg 0)), []) ∧
    decodeBytes {} [0xDA, 0x01, 0x8F, 0x90, 0x00, 0x00, 0x00] =
      .ok (.scalar (.mtpr (.literal 1) (.immediate 0x90)), []) ∧
    decodeBytes {} [0x02] = .ok (.scalar .rei, []) := by decide

theorem test_decodeTableWord :
    decodeTableWord 16 0x80FD = some (.vvaddl (.literal 0)) ∧
    decodeTableWord 40 0x01238F80FD = some (.vvaddl (.immediate 0x0123)) ∧ decodeTableWord 16 0x32FD = none := by decide

/-! ### One step on small states -/

/-- The first 64 KB are mapped to themselves for every mode. -/
def row : MapRow := { va := 0, len := 65536, pa := 0, readModes := 15, writeModes := 15 }

/-- The launch premises of R461: enabled, nothing pending, memory management on, PC 200 hex; VLR 1. -/
def launch : State :=
  { State.reset with
    cpu := { Scalar.reset with venSeen := true, mapen := true, psl := 0, pc := 0x200 }
    vp := { Vp.reset with vpsr := 1, vlr := 1 }
    pageMap := [row] }

/-- The elements of a register, the rest zero. -/
def setV (s : State) (r : BitVec 4) (l : List Quad) : State := s.setVp (s.vp.setReg r fun i => l.getD i 0)

/-- V1[0] and V2[0], VLR 1. -/
def two (a b : Quad) : State := setV (setV launch 1 [a]) 2 [b]

/-- Some number of the next state. -/
def seen (f : State → Nat) (o : Out) : Option Nat :=
  match o with
  | .next s => some (f s)
  | _ => none

/-- An element of the next state. -/
def element (r : BitVec 4) (i : Fin 64) (o : Out) : Option Quad :=
  match o with
  | .next s => some (s.vp.elem r i)
  | _ => none

/-- A longword result of element `i`: its high half is a free value. -/
def long (i : Nat) (x : Long) : Option Quad := some (Quad.mk (Quad.hi (Config.draw i)) x)

/-- VAER of the next state. -/
def vaer (o : Out) : Option Nat := seen (fun s => s.vp.vaer.toNat) o

/-- VMR of the next state. -/
def mask (o : Out) : Option Nat := seen (fun s => s.vp.vmr.toNat) o

/-- The refusal an outcome is. -/
def refusal (o : Out) : Option Refusal :=
  match o with
  | .refused r => some r
  | _ => none


/-- T2.1 -/
theorem test_vvaddl : element 3 0 (exec (.vvaddl (.immediate 0x2123)) (two 0x7FFFFFFF 0x1)) = long 0 0x80000000 := by rfl

theorem test_vvaddl_overflow : vaer (exec (.vvaddl (.immediate 0x2123)) (two 0x7FFFFFFF 0x1)) = some 0x00080020 := by decide

/-- T2.6 -/
theorem test_vvsubl : element 3 0 (exec (.vvsubl (.immediate 0x2123)) (two 0x80000000 0x1)) = long 0 0x7FFFFFFF := by rfl

theorem test_vvsubl_overflow : vaer (exec (.vvsubl (.immediate 0x2123)) (two 0x80000000 0x1)) = some 0x00080020 := by decide

/-- T2.13 -/
theorem test_vvmull : element 3 0 (exec (.vvmull (.immediate 0x2123)) (two 0x80000000 0xFFFFFFFF)) = long 0 0x80000000 := by rfl

theorem test_vvmull_overflow : vaer (exec (.vvmull (.immediate 0x2123)) (two 0x80000000 0xFFFFFFFF)) = some 0x00080020 := by decide

/-- T2.2 -/
theorem test_vsaddl : element 3 0 (exec (.vsaddl (.immediate 0x2023) (.immediate 0x80000000)) (two 0 0xFFFFFFFF)) = long 0 0x7FFFFFFF := by rfl

/-- T2.8 -/
theorem test_vssubl : element 3 0 (exec (.vssubl (.immediate 0x2023) (.immediate 0x0)) (two 0 0x5)) = long 0 0xFFFFFFFB := by rfl

/-- T2.17 -/
theorem test_vsmull : element 3 0 (exec (.vsmull (.immediate 0x2023) (.immediate 0xFFFFFFFE)) (two 0 0x40000000)) = long 0 0x80000000 := by rfl

/-- T3.3 -/
theorem test_vvcmpl_forms : ([.vvgtrl (.immediate 0x0120), .vveqll (.immediate 0x0121), .vvlssl (.immediate 0x0122), .vvleql (.immediate 0x0124), .vvneql (.immediate 0x0125), .vvgeql (.immediate 0x0126)] : List Instr).map (fun i => mask (exec i (two 0x7FFFFFFF 0x80000000))) =
    [some 1, some 0, some 0, some 0, some 1, some 1] := by decide

/-- T3.3, function 5 -/
theorem test_vvcmpl : mask (exec (.vvcmpl (.immediate 0x0125)) (two 0x7FFFFFFF 0x80000000)) = some 1 := by decide

/-- T3.1 -/
theorem test_vscmpl_forms : ([.vsgtrl (.immediate 0x0020) (.immediate 0xFFFFFFFF), .vseqll (.immediate 0x0021) (.immediate 0xFFFFFFFF), .vslssl (.immediate 0x0022) (.immediate 0xFFFFFFFF), .vsleql (.immediate 0x0024) (.immediate 0xFFFFFFFF), .vsneql (.immediate 0x0025) (.immediate 0xFFFFFFFF), .vsgeql (.immediate 0x0026) (.immediate 0xFFFFFFFF)] : List Instr).map (fun i => mask (exec i (two 0xFFFFFFFF 0x1))) =
    [some 0, some 0, some 1, some 1, some 1, some 0] := by decide

/-- T3.1, function 5 -/
theorem test_vscmpl : mask (exec (.vscmpl (.immediate 0x0025) (.immediate 0xFFFFFFFF)) (two 0xFFFFFFFF 0x1)) = some 1 := by decide

/-- T8.5 -/
theorem test_vvcmpf_forms : ([.vvgtrf (.immediate 0x0120), .vveqlf (.immediate 0x0121), .vvlssf (.immediate 0x0122), .vvleqf (.immediate 0x0124), .vvneqf (.immediate 0x0125), .vvgeqf (.immediate 0x0126)] : List Instr).map (fun i => mask (exec i (two 0xC100 0xC080))) =
    [some 0, some 0, some 1, some 1, some 1, some 0] := by decide

/-- T8.5, function 5 -/
theorem test_vvcmpf : mask (exec (.vvcmpf (.immediate 0x0125)) (two 0xC100 0xC080)) = some 1 := by decide

/-- T8.1 -/
theorem test_vscmpf_forms : ([.vsgtrf (.immediate 0x0020) (.immediate 0x4140), .vseqlf (.immediate 0x0021) (.immediate 0x4140), .vslssf (.immediate 0x0022) (.immediate 0x4140), .vsleqf (.immediate 0x0024) (.immediate 0x4140), .vsneqf (.immediate 0x0025) (.immediate 0x4140), .vsgeqf (.immediate 0x0026) (.immediate 0x4140)] : List Instr).map (fun i => mask (exec i (two 0x4140 0x4100))) =
    [some 1, some 0, some 0, some 0, some 1, some 1] := by decide

/-- T8.1, function 5 -/
theorem test_vscmpf : mask (exec (.vscmpf (.immediate 0x0025) (.immediate 0x4140)) (two 0x4140 0x4100)) = some 1 := by decide

/-- T8.7 -/
theorem test_vvcmpd_forms : ([.vvgtrd (.immediate 0x0120), .vveqld (.immediate 0x0121), .vvlssd (.immediate 0x0122), .vvleqd (.immediate 0x0124), .vvneqd (.immediate 0x0125), .vvgeqd (.immediate 0x0126)] : List Instr).map (fun i => mask (exec i (two 0x4080 0x100004080))) =
    [some 0, some 0, some 1, some 1, some 1, some 0] := by decide

/-- T8.7, function 5 -/
theorem test_vvcmpd : mask (exec (.vvcmpd (.immediate 0x0125)) (two 0x4080 0x100004080)) = some 1 := by decide

/-- T8.8 -/
theorem test_vscmpd_forms : ([.vsgtrd (.immediate 0x0020) (.immediate 0xC080), .vseqld (.immediate 0x0021) (.immediate 0xC080), .vslssd (.immediate 0x0022) (.immediate 0xC080), .vsleqd (.immediate 0x0024) (.immediate 0xC080), .vsneqd (.immediate 0x0025) (.immediate 0xC080), .vsgeqd (.immediate 0x0026) (.immediate 0xC080)] : List Instr).map (fun i => mask (exec i (two 0xC080 0x0))) =
    [some 0, some 0, some 1, some 1, some 1, some 0] := by decide

/-- T8.8, function 5 -/
theorem test_vscmpd : mask (exec (.vscmpd (.immediate 0x0025) (.immediate 0xC080)) (two 0xC080 0x0)) = some 1 := by decide

/-- T8.9 -/
theorem test_vvcmpg_forms : ([.vvgtrg (.immediate 0x0120), .vveqlg (.immediate 0x0121), .vvlssg (.immediate 0x0122), .vvleqg (.immediate 0x0124), .vvneqg (.immediate 0x0125), .vvgeqg (.immediate 0x0126)] : List Instr).map (fun i => mask (exec i (two 0x4028 0x4028))) =
    [some 0, some 1, some 0, some 1, some 0, some 1] := by decide

/-- T8.9, function 5 -/
theorem test_vvcmpg : mask (exec (.vvcmpg (.immediate 0x0125)) (two 0x4028 0x4028)) = some 0 := by decide

/-- T8.10 -/
theorem test_vscmpg_forms : ([.vsgtrg (.immediate 0x0020) (.immediate 0xC044), .vseqlg (.immediate 0x0021) (.immediate 0xC044), .vslssg (.immediate 0x0022) (.immediate 0xC044), .vsleqg (.immediate 0x0024) (.immediate 0xC044), .vsneqg (.immediate 0x0025) (.immediate 0xC044), .vsgeqg (.immediate 0x0026) (.immediate 0xC044)] : List Instr).map (fun i => mask (exec i (two 0xC044 0x4000))) =
    [some 0, some 0, some 1, some 1, some 1, some 0] := by decide

/-- T8.10, function 5 -/
theorem test_vscmpg : mask (exec (.vscmpg (.immediate 0x0025) (.immediate 0xC044)) (two 0xC044 0x4000)) = some 1 := by decide

/-- T3.7 -/
theorem test_compare_keeps_other_bits : mask (exec (.vseqll (.immediate 0x0001) (.literal 7))
      (setV (launch.setVp { launch.vp with vlr := 2, vmr := 0xFFFFFFFFFFFFFFFF }) 0 [7, 8])) = some 0xFFFFFFFFFFFFFFFD := by decide

/-- T3.6 -/
theorem test_masked_compare : mask (exec (.vvlssl (.immediate 0xC122))
      (setV (setV (launch.setVp { launch.vp with vlr := 4, vmr := 5 }) 1 [1, 1, 9, 9]) 2 [5, 5, 5, 5])) = some 1 := by decide

/-- T8.6, T16.9 -/
theorem test_compare_reserved_operand : vaer (exec (.vvgtrf (.immediate 0x0120)) (two 0x8000 0x4080)) = some 4 := by decide

/-- T4.1 -/
theorem test_vvbisl : element 3 0 (exec (.vvbisl (.immediate 0x0123)) (two 0xF0F0F0F 0xAAAA555500FF00FF)) = some 0xAAAA55550FFF0FFF := by decide

/-- T4.1 -/
theorem test_vsbisl : element 3 0 (exec (.vsbisl (.immediate 0x0023) (.immediate 0xF0F0F0F)) (two 0 0xAAAA555500FF00FF)) = some 0xAAAA55550FFF0FFF := by decide

/-- T4.5 -/
theorem test_vvxorl : element 3 0 (exec (.vvxorl (.immediate 0x0123)) (two 0xFFFFFFFF 0xDEADBEEF12345678)) = some 0xDEADBEEFEDCBA987 := by decide

/-- T4.5 -/
theorem test_vsxorl : element 3 0 (exec (.vsxorl (.immediate 0x0023) (.immediate 0xFFFFFFFF)) (two 0 0xDEADBEEF12345678)) = some 0xDEADBEEFEDCBA987 := by decide

/-- T4.3 -/
theorem test_vvbicl : element 3 0 (exec (.vvbicl (.immediate 0x0123)) (two 0xF0F0F0F 0xAAAA555500FF00FF)) = some 0xAAAA555500F000F0 := by decide

/-- T4.3 -/
theorem test_vsbicl : element 3 0 (exec (.vsbicl (.immediate 0x0023) (.immediate 0xF0F0F0F)) (two 0 0xAAAA555500FF00FF)) = some 0xAAAA555500F000F0 := by decide

/-- T5.5 -/
theorem test_vvsrll : element 3 0 (exec (.vvsrll (.immediate 0x0123)) (two 0x24 0x80000000)) = long 0 0x08000000 := by rfl

/-- T5.13 -/
theorem test_vvslll : element 3 0 (exec (.vvslll (.immediate 0x0123)) (two 0xFFFFFFE4 0xF)) = long 0 0x000000F0 := by rfl

/-- T5.6 -/
theorem test_vssrll : element 3 0 (exec (.vssrll (.immediate 0x0023) (.immediate 0xFFFFFFFF)) (two 0 0x80000000)) = long 0 0x00000001 := by rfl

/-- T5.12 -/
theorem test_vsslll : element 3 0 (exec (.vsslll (.immediate 0x0023) (.immediate 0x21)) (two 0 0x40000001)) = long 0 0x80000002 := by rfl

/-- T6.4 -/
theorem test_vvaddf : element 3 0 (exec (.vvaddf (.immediate 0x0123)) (two 0x4080 0x3480)) = long 0 0x00014080 := by rfl

/-- T6.8 -/
theorem test_vvsubf : element 3 0 (exec (.vvsubf (.immediate 0x0123)) (two 0x4140 0x4080)) = long 0 0x00004100 := by rfl

/-- T6.17 -/
theorem test_vvmulf : element 3 0 (exec (.vvmulf (.immediate 0x0123)) (two 0x6000 0x6000)) = long 0 0x00007F80 := by rfl

/-- T6.20 -/
theorem test_vvdivf : element 3 0 (exec (.vvdivf (.immediate 0x0123)) (two 0x4080 0x4140)) = long 0 0xAAAB3FAA := by rfl

/-- T6.5 -/
theorem test_vsaddf : element 3 0 (exec (.vsaddf (.immediate 0x0023) (.immediate 0x7F)) (two 0 0x4080)) = long 0 0x00004080 := by rfl

/-- T6.9 -/
theorem test_vssubf : element 3 0 (exec (.vssubf (.immediate 0x0023) (.immediate 0x0)) (two 0 0x4080)) = long 0 0x0000C080 := by rfl

/-- T6.13 -/
theorem test_vsmulf : element 3 0 (exec (.vsmulf (.immediate 0x0023) (.immediate 0xC100)) (two 0 0x4140)) = long 0 0x0000C1C0 := by rfl

/-- T6.19 -/
theorem test_vsdivf : element 3 0 (exec (.vsdivf (.immediate 0x0023) (.immediate 0x4140)) (two 0 0x4100)) = long 0 0x000040C0 := by rfl

/-- T6.3 -/
theorem test_vvaddf_overflow : vaer (exec (.vvaddf (.immediate 0x0123)) (two 0xFFFF7FFF 0xFFFF7FFF)) = some 0x00080008 := by decide

/-- T6.7, by subtraction -/
theorem test_vvsubf_reserved : vaer (exec (.vvsubf (.immediate 0x0123)) (two 0x4080 0x12348004)) = some 0x00080004 := by decide

/-- T6.15 -/
theorem test_vvmulf_underflow : vaer (exec (.vvmulf (.immediate 0x2123)) (two 0x80 0x4000)) = some 0x00080001 := by decide

/-- T6.14 -/
theorem test_vvmulf_underflow_disabled : vaer (exec (.vvmulf (.immediate 0x0123)) (two 0x80 0x4000)) = some 0x00000000 := by decide

/-- T6.22 -/
theorem test_vvdivf_by_zero : vaer (exec (.vvdivf (.immediate 0x0123)) (two 0x0 0x0)) = some 0x00080002 := by decide

/-- T7.2 -/
theorem test_vvaddd : element 3 0 (exec (.vvaddd (.immediate 0x0123)) (two 0x4080 0x2480)) = some 0x1000000004080 := by decide

/-- T7.2 -/
theorem test_vsaddd : element 3 0 (exec (.vsaddd (.immediate 0x0023) (.immediate 0x4080)) (two 0 0x2480)) = some 0x1000000004080 := by decide

/-- T7.3 -/
theorem test_vvsubd : element 3 0 (exec (.vvsubd (.immediate 0x0123)) (two 0x4120 0x4000)) = some 0x4100 := by decide

/-- T7.3 -/
theorem test_vssubd : element 3 0 (exec (.vssubd (.immediate 0x0023) (.immediate 0x4120)) (two 0 0x4000)) = some 0x4100 := by decide

/-- T7.4 -/
theorem test_vvmuld : element 3 0 (exec (.vvmuld (.immediate 0x0123)) (two 0x40C0 0x40C0)) = some 0x4110 := by decide

/-- T7.4 -/
theorem test_vsmuld : element 3 0 (exec (.vsmuld (.immediate 0x0023) (.immediate 0x40C0)) (two 0 0x40C0)) = some 0x4110 := by decide

/-- T7.7 -/
theorem test_vvdivd : element 3 0 (exec (.vvdivd (.immediate 0x0123)) (two 0x4080 0x4140)) = some 0xAAABAAAAAAAA3FAA := by decide

/-- T7.7 -/
theorem test_vsdivd : element 3 0 (exec (.vsdivd (.immediate 0x0023) (.immediate 0x4080)) (two 0 0x4140)) = some 0xAAABAAAAAAAA3FAA := by decide

/-- T7.10 -/
theorem test_vvaddg : element 3 0 (exec (.vvaddg (.immediate 0x0123)) (two 0x4010 0x4010)) = some 0x4020 := by decide

/-- T7.10 -/
theorem test_vsaddg : element 3 0 (exec (.vsaddg (.immediate 0x0023) (.immediate 0x4010)) (two 0 0x4010)) = some 0x4020 := by decide

/-- T7.11 -/
theorem test_vvsubg : element 3 0 (exec (.vvsubg (.immediate 0x0123)) (two 0x4010 0x4028)) = some 0xC020 := by decide

/-- T7.11 -/
theorem test_vssubg : element 3 0 (exec (.vssubg (.immediate 0x0023) (.immediate 0x4010)) (two 0 0x4028)) = some 0xC020 := by decide

/-- T7.12 -/
theorem test_vvmulg : element 3 0 (exec (.vvmulg (.immediate 0x0123)) (two 0x4024 0x4030)) = some 0x4044 := by decide

/-- T7.12 -/
theorem test_vsmulg : element 3 0 (exec (.vsmulg (.immediate 0x0023) (.immediate 0x4024)) (two 0 0x4030)) = some 0x4044 := by decide

/-- T7.16 -/
theorem test_vvdivg : element 3 0 (exec (.vvdivg (.immediate 0x0123)) (two 0x4010 0x4028)) = some 0x5555555555553FF5 := by decide

/-- T7.16 -/
theorem test_vsdivg : element 3 0 (exec (.vsdivg (.immediate 0x0023) (.immediate 0x4010)) (two 0 0x4028)) = some 0x5555555555553FF5 := by decide

/-- T9.4 -/
theorem test_vvcvtlf : element 3 0 (exec (.vvcvtlf (.immediate 0x0123)) (two 0 0x1000001)) = long 0 0x00014C80 := by rfl

/-- T9.16 -/
theorem test_vvcvtfl : element 3 0 (exec (.vvcvtfl (.immediate 0x0423)) (two 0 0xC120)) = long 0 0xFFFFFFFE := by rfl

/-- T9.24 -/
theorem test_vvcvtrfl : element 3 0 (exec (.vvcvtrfl (.immediate 0x0523)) (two 0 0xC120)) = long 0 0xFFFFFFFD := by rfl

/-- T9.46 -/
theorem test_vvcvtdl : element 3 0 (exec (.vvcvtdl (.immediate 0x0823)) (two 0 0x8000000200005480)) = long 0 0x00000005 := by rfl

/-- T9.49 -/
theorem test_vvcvtdf : element 3 0 (exec (.vvcvtdf (.immediate 0x0923)) (two 0 0x800000004080)) = long 0 0x00014080 := by rfl

/-- T9.58 -/
theorem test_vvcvtrdl : element 3 0 (exec (.vvcvtrdl (.immediate 0x0A23)) (two 0 0xFF00FFFF4FFF)) = long 0 0x80000000 := by rfl

/-- T9.63 -/
theorem test_vvcvtgl : element 3 0 (exec (.vvcvtgl (.immediate 0x0C23)) (two 0 0x4650)) = long 0 0x00000000 := by rfl

/-- T9.70 -/
theorem test_vvcvtgf : element 3 0 (exec (.vvcvtgf (.immediate 0x0D23)) (two 0 0x3810)) = long 0 0x00000080 := by rfl

/-- T9.76 -/
theorem test_vvcvtrgl : element 3 0 (exec (.vvcvtrgl (.immediate 0x0F23)) (two 0 0xC024)) = long 0 0xFFFFFFFD := by rfl

/-- T9.9 -/
theorem test_vvcvtld : element 3 0 (exec (.vvcvtld (.immediate 0x0223)) (two 0 0x7FFFFFFF)) = some 0xFE00FFFF4FFF := by decide

/-- T9.13 -/
theorem test_vvcvtlg : element 3 0 (exec (.vvcvtlg (.immediate 0x0323)) (two 0 0x7FFFFFFF)) = some 0xFFC0FFFF41FF := by decide

/-- T9.33 -/
theorem test_vvcvtfd : element 3 0 (exec (.vvcvtfd (.immediate 0x0623)) (two 0 0xFFFF7FFF)) = some 0xFFFF7FFF := by decide

/-- T9.38 -/
theorem test_vvcvtfg : element 3 0 (exec (.vvcvtfg (.immediate 0x0723)) (two 0 0xFFFF7FFF)) = some 0xE000FFFF47FF := by decide

/-- T9.18 -/
theorem test_vvcvtfl_overflow : vaer (exec (.vvcvtfl (.immediate 0x2423)) (two 0 0x5000)) = some 0x00080020 := by decide

/-- T9.72 -/
theorem test_vvcvtgf_overflow : vaer (exec (.vvcvtgf (.immediate 0x0D23)) (two 0 0xFFFFFFFFFFFF47FF)) = some 0x00080008 := by decide

/-- T9.65 -/
theorem test_vvcvtgl_reserved : vaer (exec (.vvcvtgl (.immediate 0x2C23)) (two 0 0x8000)) = some 0x00080004 := by decide

/-- T9.51 -/
theorem test_vvcvtdf_overflow : vaer (exec (.vvcvtdf (.immediate 0x0923)) (two 0 0xFFFFFFFFFFFF7FFF)) = some 0x00080008 := by decide

/-- T9.32 -/
theorem test_vvcvt : element 3 0 (exec (.vvcvt (.immediate 0x0623)) (two 0 0xBF00)) = some 0xBF00 := by decide

/-- T10.1 -/
theorem test_vvmerge :
    ([0, 1, 2, 3, 4] : List (Fin 64)).map (fun i => element 3 i (exec (.vvmerge (.immediate 0x4123))
      (setV (setV (launch.setVp { launch.vp with vlr := 4, vmr := 5 }) 1 [0x10, 0x11, 0x12, 0x13, 0x14]) 2
        [0xBBBBBBBB00000020, 0x21, 0x22, 0x23, 0x24]))) = [some 0x10, some 0x21, some 0x12, some 0x23, some 0] := by decide

/-- T10.2 -/
theorem test_vsmerge :
    ([0, 1] : List (Fin 64)).map (fun i => element 3 i
      (exec (.vsmerge (.immediate 0x4023) (.immediate 0x0123456789ABCDEF))
        (setV (launch.setVp { launch.vp with vlr := 4, vmr := 5 }) 2 [0x20, 0xBBBBBBBB00000021]))) =
      [some 0x0123456789ABCDEF, some 0xBBBBBBBB00000021] := by decide

/-- VLR 8, VMR 10110010 binary. -/
def compressing : State := launch.setVp { launch.vp with vlr := 8, vmr := 0xB2 }

/-- T11.1 -/
theorem test_iota : element 5 3 (exec (.iota (.immediate 0x4005) (.literal 4)) compressing) = long 3 0x1C := by rfl

/-- T11.1 -/
theorem test_iota_count :
    seen (fun s => s.vp.vcr.toNat) (exec (.iota (.immediate 0x4005) (.literal 4)) compressing) = some 4 := by decide

/-- Memory image M0 of T12 at 1000 hex, VLR 3, V2 offsets of T12.10. -/
def loading : State :=
  setV { launch with
    mem := launch.mem.writeCells
      (cellsLE 0x1000 32 0x8888888877777777666666665555555544444444333333332222222211111111)
    vp := { launch.vp with vlr := 3 } } 2 [0xDEADBEEF00000008, 0, 0x18]

/-- T12.2: stride -4. -/
theorem test_vldl :
    element 1 2 (exec (.vldl (.immediate 1) (.mem (.absolute 0x100C)) (.immediate 0xFFFFFFFC)) loading) =
      long 2 0x22222222 := by rfl

/-- T12.8 -/
theorem test_vldq :
    element 1 1 (exec (.vldq (.immediate 1) (.mem (.absolute 0x1000)) (.literal 8)) loading) =
      some 0x4444444433333333 := by decide

/-- T12.10 -/
theorem test_vgathl :
    element 1 0 (exec (.vgathl (.immediate 0x0021) (.mem (.absolute 0x1000))) loading) = long 0 0x33333333 := by rfl

/-- T12.12, with offsets 8, 0, 18 hex. -/
theorem test_vgathq :
    element 1 2 (exec (.vgathq (.immediate 0x0021) (.mem (.absolute 0x1000))) loading) =
      some 0x8888888877777777 := by decide

/-- T12.5: an unaligned element address under the asynchronous method sets PMF and MF (T16.4). -/
theorem test_vldl_unaligned :
    seen (fun s => s.vp.vpsr.toNat) (exec (.vldl (.immediate 1) (.mem (.absolute 0x1002)) (.literal 4))
      (loading.setVp { loading.vp with vlr := 1 })) = some 0x61 := by decide

/-- V1 holds what is stored, V2 the offsets, VLR 4. -/
def storing : State :=
  setV (setV (launch.setVp { launch.vp with vlr := 4 }) 1
    [0xAAAAAAAA0000000A, 0xBBBBBBBB0000000B, 0xCCCCCCCC0000000C, 0xDDDDDDDD0000000D]) 2 [8, 0, 8, 4]

/-- Memory after the step. -/
def stored (a n : Nat) (o : Out) : Option Nat := seen (fun s => s.mem.readLE a n) o

/-- T12.14 -/
theorem test_vstl : stored 0x2000 16 (exec (.vstl (.immediate 1) (.mem (.absolute 0x2000)) (.literal 4)) storing) =
    some 0x0000000D0000000C0000000B0000000A := by decide

/-- T12.15: stride zero leaves the highest-numbered element. -/
theorem test_vstl_stride_zero :
    stored 0x2000 4 (exec (.vstl (.immediate 1) (.mem (.absolute 0x2000)) (.literal 0)) storing) = some 0xD := by decide

/-- T12.18 -/
theorem test_vstq : stored 0x2000 16 (exec (.vstq (.immediate 1) (.mem (.absolute 0x2000)) (.literal 8)) storing) =
    some 0xBBBBBBBB0000000BAAAAAAAA0000000A := by decide

/-- T12.19 -/
theorem test_vscatl : stored 0x2000 12 (exec (.vscatl (.immediate 0x0021) (.mem (.absolute 0x2000))) storing) =
    some 0x0000000C0000000D0000000B := by decide

/-- T12.21 -/
theorem test_vscatq :
    stored 0x2000 16 (exec (.vscatq (.immediate 0x0021) (.mem (.absolute 0x2000)))
      (storing.setVp { storing.vp with vlr := 2 })) = some 0xAAAAAAAA0000000ABBBBBBBB0000000B := by decide

/-- R0 to R3 = 11, 22, 80000000, 7F hex; VMR all ones, VCR 7F. -/
def moving : State :=
  { launch with
    cpu := { launch.cpu with gpr := ((launch.cpu.gpr.set 1 0x22).set 2 0x80000000).set 3 0x7F }
    vp := { launch.vp with vmr := 0xFFFFFFFFFFFFFFFF, vcr := 0x7F } }

/-- T14.1, T14.5, T14.6, T14.7 -/
theorem test_mtvp_forms :
    seen (fun s => s.vp.vlr.toNat) (exec (.mtvlr (.literal 1) (.immediate 64)) moving) = some 64 ∧
    seen (fun s => s.vp.vcr.toNat) (exec (.mtvcr (.literal 0) (.reg 3)) moving) = some 0x7F ∧
    mask (exec (.mtvmrlo (.literal 2) (.literal 0)) moving) = some 0xFFFFFFFF00000000 ∧
    mask (exec (.mtvmrhi (.literal 3) (.reg 2)) moving) = some 0x80000000FFFFFFFF ∧
    mask (exec (.mtvp (.literal 3) (.reg 2)) moving) = some 0x80000000FFFFFFFF := by decide

/-- T14.3 -/
theorem test_mtvlr_high_bits :
    refusal (exec (.mtvlr (.literal 1) (.immediate 0x80)) moving) = some .mtvpHighBits := by decide

/-- R0 of the next state. -/
def reg0 (o : Out) : Option Nat := seen (fun s => (s.cpu.readReg 0 0).toNat) o

/-- T14.1, T14.5, T14.6 -/
theorem test_mfvp_forms :
    reg0 (exec (.mfvlr (.literal 1) (.reg 0)) moving) = some 1 ∧
    reg0 (exec (.mfvcr (.literal 0) (.reg 0)) moving) = some 0x7F ∧
    reg0 (exec (.mfvmrlo (.literal 2) (.reg 0)) moving) = some 0xFFFFFFFF ∧
    reg0 (exec (.mfvmrhi (.literal 3) (.reg 0)) moving) = some 0xFFFFFFFF ∧
    reg0 (exec (.mfvp (.literal 1) (.reg 0)) moving) = some 1 := by decide

/-- T14.8, T14.9: a free value, and the PC goes on. -/
theorem test_sync :
    seen (fun s => s.cpu.pc.toNat) (exec (.sync (.literal 4) (.reg 0)) moving) = some 0x204 ∧
    seen (fun s => s.cpu.pc.toNat) (exec (.msync (.literal 5) (.reg 0)) moving) = some 0x204 := by decide

/-- T14.11, T14.13 -/
theorem test_vsync :
    seen (fun s => s.cpu.pc.toNat) (exec (.vsync (.literal 0)) moving) = some 0x203 ∧
    refusal (exec (.vsync (.literal 1)) moving) = some .reservedRegnum := by decide

/-- T16.1: with S_VEN clear the vector instruction takes the disabled fault through SCB offset 68 hex. -/
theorem test_disabled :
    seen (fun s => s.cpu.pc.toNat) (exec (.mtvlr (.literal 1) (.literal 4))
      { launch with
        cpu := { launch.cpu with venSeen := false, sps := launch.cpu.sps.set 0 0x800 }
        mem := launch.mem.writeCells (cellsLE 0x68 4 0x80001000) }) = some 0x80001000 := by decide

/-- T15.3, T15.5, T15.7: MTPR to VPSR. -/
theorem test_mtpr_vpsr :
    ([0x81, 1, 0x80] : List Quad).map (fun v => seen (fun s => s.vp.vpsr.toNat) (execMtpr (.immediate v) (.immediate 0x90)
      (launch.setVp { launch.vp with vpsr := 0x80, vaer := 0x00040002 }))) = [some 1, some 0x81, some 0] ∧
    seen (fun s => s.vp.vpsr.toNat + s.vp.vaer.toNat) (execMtpr (.immediate 3) (.immediate 0x90)
      (launch.setVp { launch.vp with vpsr := 0x02000080, vaer := 0x00010020 })) = some 1 := by decide

/-- T16.10: MFPR of VAER. -/
theorem test_mfpr_vaer :
    reg0 (execMfpr (.immediate 0x91) (.reg 0) (launch.setVp { launch.vp with vaer := 0x00080002 })) =
      some 0x00080002 := by decide

/-- An addition that is pending: V3 gets V1 + V2. -/
def addEntry : QEntry := { op := .intArith .add .vv, cntrl := 0x0123, len := 1 }

/-- The vector processor runs nothing before the next instruction; an addition is pending. -/
def delayed : State :=
  { launch with sched := [[]], vp := { launch.vp with queue := [addEntry] } }

/-- R44: MFPR from VPSR shows BSY while something pending can execute. -/
theorem test_busy : reg0 (execMfpr (.immediate 0x90) (.reg 0) delayed) = some 0x80000001 := by decide

/-- R356, R353: SYNC waits for the addition where it may overflow, else not, and MFVLR not. -/
theorem test_wait :
    (let overflows := delayed.setVp { delayed.vp with queue := [{ addEntry with cntrl := 0x2123 }] }
     seen (fun s => s.vp.queue.length) (exec (.sync (.literal 4) (.reg 0)) overflows) = some 0) ∧
      seen (fun s => s.vp.queue.length) (exec (.sync (.literal 4) (.reg 0)) delayed) = some 1 ∧
      seen (fun s => s.vp.queue.length) (exec (.mfvlr (.literal 1) (.reg 0)) delayed) = some 1 := by decide

/-- VLDL of three longwords at 1000 hex into V1, as queued. -/
def loadEntry : QEntry := { op := .load .long .strided, cntrl := 1, scalar := 4, base := 0x1000, len := 3 }

/-- R356: SYNC has the references of a pending load checked and does not wait for the load itself. -/
theorem test_sync_checks :
    seen (fun s => s.vp.queue.countP fun e =>
        decide (e.checked = some [(0, 0x1000), (1, 0x1004), (2, 0x1008)]) && decide (e.done = 0))
      (exec (.sync (.literal 4) (.reg 0)) { loading with sched := [[]], vp := { loading.vp with queue := [loadEntry] } }) =
        some 1 := by decide

/-- The exception that suspends it. -/
def notValid : MmFault := ⟨.translationNotValid, 0, 0x1000⟩

/-- The load is suspended with element 0 done. -/
def suspendedEntry : QEntry := { loadEntry with fault := some notValid, done := 1, started := true }

/-- The state around it: MF is set. -/
def suspendedLoad : State := loading.setVp { loading.vp with vpsr := 0x21, queue := [suspendedEntry] }

/-- R172: the next vector instruction has the suspended load retried and MF cleared; R413: nothing was busy before. -/
theorem test_retry :
    element 1 2 (exec (.mtvlr (.literal 1) (.literal 4)) suspendedLoad) = long 2 0x33333333 := by rfl

theorem test_retry_status :
    seen (fun s => s.vp.vpsr.toNat) (exec (.mtvlr (.literal 1) (.literal 4)) suspendedLoad) = some 1 ∧
      busy suspendedLoad = false := by decide

/-- R172: what is behind an instruction that is to be retried starts only after the retry; R373: RST leaves VMR as a
MTVMRLO behind a suspended load has written it. -/
theorem test_behind_suspended :
    (let s := suspendedLoad.setVp { suspendedLoad.vp with
        queue := [{ suspendedEntry with fault := some { notValid with va := 0x1004 } }, { addEntry with cntrl := 0x0453 }] }
     seen (fun s => s.vp.queue.countP QEntry.started) (runEntry 1 none none (retrySuspended s)) = some 1 ∧
      seen (fun s => s.vp.queue.countP QEntry.started)
        (happenAll [.run 0 (some 2) none, .run 1 none none] (retrySuspended s)) = some 2) ∧
      seen (fun s => s.vp.vmr.toNat) (execMtpr (.literal 2) (.immediate 0x90)
        (suspendedLoad.setVp { suspendedLoad.vp with queue := [suspendedEntry, { op := .mtvp .vmrlo, scalar := 5 }] })) =
        some 5 := by decide

/-- R56, R374: what VPSR<STS> has stored keeps the mask of its place in issue order. -/
theorem test_saved_mask :
    (savedQueue (suspendedLoad.setVp { suspendedLoad.vp with vmr := 6, queue := [suspendedEntry] })).map
      (fun e => (e.sees { Vp.reset with vmr := 0xFF }).vmr) = [6] := by decide

/-- R53, R413: what is queued starts in issue order, and to start is not to execute; R413: behind something suspended neither
starts. -/
theorem test_start_order :
    (let q := [{ addEntry with len := 2 }, { addEntry with cntrl := 0x0453 }]
     let s := delayed.setVp { delayed.vp with queue := q }
     let t := delayed.setVp { delayed.vp with queue := suspendedEntry :: q }
     seen (fun s => s.vp.queue.countP QEntry.started) (runEntry 0 (some 0) none s) = some 1 ∧
      seen (fun s => s.vp.queue.countP QEntry.started) (runEntry 1 none none s) = some 2 ∧
      seen (fun s => s.vp.queue.countP fun e => decide (e.done ≠ 0)) (runEntry 1 none none s) = some 1 ∧
      seen (fun s => s.vp.queue.countP QEntry.started) (runEntry 2 none none t) = some 1) := by decide

/-- A store of V1[0] to 1000 hex and a load of it into V2, both pending, with no VSYNC between them. -/
def unordered : State :=
  setV (loading.setVp { loading.vp with
    queue := [{ loadEntry with op := .store .long .strided, len := 1 }, { loadEntry with cntrl := 2, len := 1 }] }) 1 [0x55]

/-- R100, R107, R227: the load may come first, or last. -/
theorem test_reversed :
    element 2 0 (happenAll [.run 1 none none, .run 0 none none] unordered) = long 0 0x11111111 ∧
      element 2 0 (happenAll [.run 0 none none, .run 0 none none] unordered) = long 0 0x55 := by
  refine ⟨by rfl, by rfl⟩

/-- Two longwords at 1000 hex, stride zero, to be retried, and a scalar write to 1000 hex that is not visible yet. -/
def racing (plan : List Event) : State :=
  let e := { loadEntry with scalar := 0, len := 2, fault := some notValid }
  let s := suspendedLoad.setVp { suspendedLoad.vp with queue := [e] }
  { s with sched := [plan], cpu := { s.cpu with wbuf := [cellsLE 0x1000 4 0x99] } }

/-- R107: where the waiting instruction carries the retry, each element reads the old or the new value; R172: MFVLR too comes
after the retry. -/
theorem test_retry_races :
    element 1 0 (exec (.msync (.literal 5) (.reg 0)) (racing [.run 0 (some 1) none, .scalarVisible 0])) =
        long 0 0x11111111 ∧
      element 1 1 (exec (.msync (.literal 5) (.reg 0)) (racing [.run 0 (some 1) none, .scalarVisible 0])) = long 1 0x99 ∧
      seen (fun s => s.vp.queue.length) (exec (.mfvlr (.literal 1) (.reg 0)) (racing [])) = some 0 := by
  refine ⟨by rfl, by rfl, by decide⟩

/-- R417: RST leaves a load alone that has been retried and is complete, behind one that is still suspended. -/
theorem test_reset_keeps :
    element 4 1 (execMtpr (.literal 2) (.immediate 0x90) (suspendedLoad.setVp { suspendedLoad.vp with queue := [suspendedEntry,
      { suspendedEntry with cntrl := 4, phase := .resumed, done := 7, spoil := 1, res := Vector.replicate 64 9 }] })) =
        some 9 := by decide

/-- R192, R357: of a masked gather that is given up, what it had loaded goes on making MSYNC report, and its destination
depends on its mask bits and its offsets. -/
theorem test_given_up :
    (let e : QEntry := { op := .load .long .indexed, cntrl := 0xC021, base := 0x1000, len := 3, done := 1, tainted := 1,
                         fault := some notValid, spoil := allElements }
     seen (fun s => if s.vp.taint.mem then (s.vp.taint.v[1]).toNat else 0) (execMtpr (.immediate 0x21) (.immediate 0x90)
      (suspendedLoad.setVp { suspendedLoad.vp with
        queue := [e], vmr := 7, taint := { vmr := 2, v := (Vector.replicate 16 0).set 2 4 } }))) = some 7 := by decide

/-- R192, R225: a masked gather into its own source that processes element 1 alone: element 0, below VLR, depends on its mask
bit. -/
theorem test_gather_same_taint :
    seen (fun s => (s.vp.taint.v[2]).toNat) (exec (.vgathl (.immediate 0xC022) (.mem (.absolute 0x1000)))
      (loading.setVp { loading.vp with vmr := 2, taint := { vmr := 9 } })) = some 1 := by decide

/-- R193, R357: what a store wrote where it met an exception goes on making MSYNC report, also where the store is given up. -/
theorem test_given_up_store :
    (let p := { suspendedLoad.vp with taint := { v := (Vector.replicate 16 0).set 1 2 } }
     let e := markEarly Config.default .long .strided { suspendedEntry with op := .store .long .strided } p [(1, 0x1004)]
     seen (fun s => if s.vp.taint.mem then s.vp.taint.stored.sum else 0) (execMtpr (.immediate 0x21) (.immediate 0x90)
      (suspendedLoad.setVp { p with queue := [e] }))) = some (4 * 0x1004 + 6) := by decide

/-- R354, R423: what the flush at an enable discards before it executed leaves its destination as it was, with what that
depends on: an element, a mask bit, VCR. -/
theorem test_flush_keeps_taint :
    (let flush := fun e => execMtpr (.literal 1) (.immediate 0x90) (launch.setVp { launch.vp with
       flushOnEnable := true, queue := [e], taint := { v := (Vector.replicate 16 0).set 3 1, vmr := 1, vcr := true } })
     let sum := fun s : State => (s.vp.taint.v[3]).toNat + 2 * (s.vp.taint.vmr).toNat + (if s.vp.taint.vcr then 4 else 0)
     seen sum (flush addEntry) = some 7 ∧ seen sum (flush { op := .intCompare .vv, cntrl := 0x0120, len := 1 }) = some 7 ∧
       seen sum (flush { op := .iota, cntrl := 3, len := 1 }) = some 7) := by decide

/-- R107: of two operand reads of one location by one instruction, the first sees the old value and the second the new one. -/
theorem test_race_within :
    seen (fun s =>
        match evalOperands 2 [.rw, .rl] [.mem (.absolute 0x1000), .mem (.absolute 0x1000)] s with
        | .ok o => (o.value 0).toNat + 2 ^ 16 * (o.value 1).toNat
        | _ => 0)
      (happen (.visibleAtRead 3 0) (loading.setVp { loading.vp with vbuf := [[(0x1000, 0x99)]] })) =
      some (0x1111 + 2 ^ 16 * 0x11111199) := by decide

/-- R225: with a vector length of zero every element of a register that is source and destination is a free value. -/
theorem test_gather_same_zero :
    element 2 63 (exec (.vgathl (.immediate 0x0022) (.mem (.absolute 0x1000)))
      (loading.setVp { loading.vp with vlr := 0 })) = some (Config.draw 63) := by rfl

/-- R426: in the handler of a disabled fault MFPR from VAER reports what was recorded since; elsewhere it does not. -/
theorem test_vaer_reports :
    (let read := fun after => seen (fun s => if s.vp.aexPending then 1 else 0)
       (execMfpr (.immediate 0x91) (.reg 0)
         { launch with
           cpu := { launch.cpu with venSeen := false, afterDisabled := after }
           vp := { launch.vp with vpsr := 0x80, vaer := 1, aexPending := true } })
     read true = some 0 ∧ read false = some 1) := by decide

/-- R431, R432: an error that has stopped execution is reported at VMAC where it left a memory instruction unfinished, at VPSR
where it left another, and not where it left neither. -/
theorem test_stopped_reported :
    (let imp := fun n mem e => seen (fun s => (s.vp.vpsr).toNat)
       (execMfpr (.immediate n) (.reg 0) (launch.setVp { launch.vp with
         queue := [e], halted := true, hwMem := mem, hwOp := !mem }))
     imp 0x92 false { op := .load .long .strided, cntrl := 1, len := 1 } = some 0x01000000 ∧
       imp 0x90 true addEntry = some 0x01000000 ∧ imp 0x92 false addEntry = some 1) := by decide

/-- P1, first instruction: a whole step at the PC. -/
theorem test_step :
    seen (fun s => s.vp.vlr.toNat + s.cpu.pc.toNat) (step (launch.withFetchWord 32 0x0401A9FD)) = some (4 + 0x204) := by
  decide

end Sys2Proof.Tests
end

