-- ==== Sys2Proof/Tests/Witnesses.lean ====
section
/-! SUPPORT. For every statement with hypotheses, a concrete state and operands that meet all of them together. -/

namespace Sys2Proof.Tests

open Sys2Proof Sys2Proof.Machine

set_option maxRecDepth 20000

/-- The evaluated operands, where evaluation succeeds. -/
def operands (header : Nat) (accs : List Access) (sps : List Spec) (s : State) : Operands :=
  match evalOperands header accs sps s with
  | .ok o => o
  | _ => ⟨[], 0, s, []⟩

/-- The evaluated operands of what is sent to the vector processor. -/
def sent (op : VOp) (sps : List Spec) (s : State) : Operands := operands 2 op.accesses sps s

theorem next_of_goesOn {o : Out} (h : goesOn o = true) : ∃ t, o = .next t := by
  cases o with
  | next t => exact ⟨t, rfl⟩
  | fault r => cases h
  | refused r => cases h

theorem launch_issuable : Issuable launch := ⟨rfl, rfl, rfl, rfl, rfl⟩

theorem launch_quiet : Quiet launch := ⟨rfl, rfl, rfl, rfl⟩

theorem two_issuable (a b : Quad) : Issuable (two a b) :=
  ⟨rfl, rfl, (by decide : (1#32).getLsbD 6 = false), (by decide : (1#32).getLsbD 5 = false), rfl⟩

theorem two_quiet (a b : Quad) : Quiet (two a b) := ⟨rfl, rfl, rfl, rfl⟩

theorem loading_issuable : Issuable loading := ⟨rfl, rfl, rfl, rfl, rfl⟩

theorem storing_issuable : Issuable storing := ⟨rfl, rfl, rfl, rfl, rfl⟩

theorem moving_issuable : Issuable moving := ⟨rfl, rfl, rfl, rfl, rfl⟩

/-! ### Invariants, encoding, the step -/

/-- MTVLR #4 at the PC. -/
def ready1 : State := launch.withFetchWord 32 0x0401A9FD

/-- The same under the synchronous method. -/
def readySync : State := { ready1 with cfg := { ready1.cfg with mmMethod := .sync } }

theorem witness_StepKeepsInvariant :
    (Legal ready1 ∧ ∃ t, step ready1 = .next t) ∧ Legal readySync ∧ ∃ t, step readySync = .next t :=
  ⟨⟨⟨by decide, by decide, by decide, by decide, by decide, by decide, by decide, by decide, by decide⟩,
      next_of_goesOn (by decide)⟩,
    ⟨by decide, by decide, by decide, by decide, by decide, by decide, by decide, by decide,
      fun _ => ⟨rfl, rfl, fun e h => by cases h⟩⟩, next_of_goesOn (by decide)⟩

theorem witness_StepKeepsConfiguration : ∃ t, step ready1 = .next t := next_of_goesOn (by decide)

theorem witness_DecodeEncode :
    Instr.wellFormed {} (.vldl (.immediate 0xFFFF) (.indexed 15 (.autoincDef 14)) (.immediate 0xFFFFFFFF)) = true ∧
    Instr.wellFormed {} (.vsmuld (.immediate 0) (.immediate 0xFFFFFFFFFFFFFFFF)) = true ∧
    Instr.wellFormed {} (.mfvp (.literal 63) (.mem (.absolute 0))) = true := by decide

theorem witness_IllegalOpcode_decode :
    ∀ b ∈ ([0x30, 0x32, 0x33, 0x38, 0x7F, 0x90, 0x9B, 0xCA, 0xF0, 0xFF] : List Byte), b.toNat ∉ assignedOpcodes := by
  decide

theorem witness_IllegalOpcode_fault : launch.cfg.reportOf 0x32 = .rsvdInstrFault := rfl

/-- The other report of an illegal opcode, which is taken to have a longword operand: FD 32 #4 at the PC. -/
def reportsIvo : State :=
  { launch.withFetchWord 24 0x0432FD with cfg := { launch.cfg with illegalReport := .ivo [.rl] } }

theorem witness_IllegalOpcode_ivo :
    let f := fetchBytes reportsIvo 11 reportsIvo.cpu.pc
    reportsIvo.cfg.reportOf 0x32 = .ivo [.rl] ∧ reportsIvo.cfg.implementsIvo = true ∧ Issuable reportsIvo ∧
      reportsIvo.vp.queue = [] ∧ (∃ rest, parseSpecs [.rl] (f.bytes.drop 2) = .ok ([.literal 4], rest) ∧
        overwritten reportsIvo f (f.bytes.length - rest.length) = false) ∧
      ∃ o, evalOperands 2 [.rl] [.literal 4] reportsIvo = .ok o :=
  ⟨rfl, rfl, ⟨rfl, rfl, rfl, rfl, rfl⟩, rfl, ⟨[0, 0, 0, 0, 0, 0, 0, 0], by decide, by decide⟩, ⟨_, rfl⟩⟩

theorem witness_StepRunsDecoded :
    Quiet ready1 ∧ ready1.races = [] ∧ ready1.vp.hwMem = false ∧ ready1.vp.hwOp = false ∧ ready1.vp.vaerOld = 0 ∧
      ready1.vp.aexLate = false ∧ ∃ s', advance ready1 = .next s' ∧
      decode s'.cfg.regnum (fetchBytes s' maxLength s'.cpu.pc).bytes = .ok (.vector (.mtvlr (.literal 1) (.literal 4)), 4) ∧
      overwritten s' (fetchBytes s' maxLength s'.cpu.pc) 4 = false :=
  ⟨⟨rfl, rfl, rfl, rfl⟩, rfl, rfl, rfl, rfl, rfl, ready1.flushAll.seeVen, rfl, by decide, by decide⟩

/-! ### Operands -/

theorem witness_OperandsKeepOtherRegisters :
    (∃ o, evalOperands 2 [.rw, .ab, .rl] [.immediate 1, .mem (.autoinc 1), .mem (.autodec 2)]
      (launch.setReg 2 0x1004) = .ok o) ∧
    (0 : RegNo) ∉ modifiedRegs [.immediate 1, .mem (.autoinc 1), .mem (.autodec 2)] ∧
    (4 : Fin 5) ≠ Scalar.stackIndex launch.cpu.psl :=
  ⟨⟨_, rfl⟩, by decide, by decide⟩

/-- A quadword at the address in R1 and below it, at a stored address, and at an indexed one. -/
theorem witness_OperandModes :
    (∃ pas, scalarTranslateBytes moving moving.mode false (moving.cpu.readReg 1 0) Access.rq.size = .ok pas) ∧
    (∃ pas, scalarTranslateBytes moving moving.mode false
      (moving.cpu.readReg 1 0 - BitVec.ofNat 32 Access.rq.size) Access.rq.size = .ok pas) ∧
    (14 : RegNo) ≠ 15 ∧ Access.rw ≠ .rq ∧
    (∃ pas pas', scalarTranslateBytes moving moving.mode false (moving.cpu.readReg 1 0) 4 = .ok pas ∧
      scalarTranslateBytes moving moving.mode false (BitVec.ofNat 32 (moving.scalarRead pas)) Access.rw.size = .ok pas') ∧
    (∃ g, evalBase 1 8 (.autoinc 1) 0 moving = .ok g ∧ ∃ pas, scalarTranslateBytes moving moving.mode false
      (g.result + g.state.cpu.readReg 1 0 * BitVec.ofNat 32 8) 8 = .ok pas) :=
  ⟨⟨_, rfl⟩, ⟨_, rfl⟩, by decide, by decide, ⟨_, _, rfl, rfl⟩, ⟨_, rfl, _, rfl⟩⟩

/-- A vector write that races. -/
theorem witness_OperandModes_races : ({ moving with races := [(2, [(0x1000, 0x99)])] } : State).races = [(2, [(0x1000, 0x99)])] := rfl

/-! ### Vector operate instructions -/

/-- T2.1 as vector-vector, T2.2 as vector-scalar. -/
theorem witness_IntegerArithmetic :
    ((.vvaddl (.immediate 0x2123), .add, .vv, [.immediate 0x2123]) ∈ integerForms (.immediate 0x2123) (.literal 0) ∧
      Runs (.intArith .add .vv) [.immediate 0x2123]
        (sent (.intArith .add .vv) [.immediate 0x2123] (two 0x7FFFFFFF 1)) (two 0x7FFFFFFF 1)) ∧
    ((.vsmull (.immediate 0x0023) (.reg 2), .mul, .vs, [.immediate 0x0023, .reg 2]) ∈
        integerForms (.immediate 0x0023) (.reg 2) ∧
      Runs (.intArith .mul .vs) [.immediate 0x0023, .reg 2]
        (sent (.intArith .mul .vs) [.immediate 0x0023, .reg 2] (two 0 1)) (two 0 1)) :=
  ⟨⟨by decide, rfl, two_issuable _ _, two_quiet _ _, rfl, by decide⟩,
    ⟨by decide, rfl, two_issuable _ _, two_quiet _ _, rfl, by decide⟩⟩

theorem witness_LogicalOperations :
    (.vsbicl (.immediate 0x0023) (.literal 63), .bic, .vs, [.immediate 0x0023, .literal 63]) ∈
        logicalForms (.immediate 0x0023) (.literal 63) ∧
      Runs (.logical .bic .vs) [.immediate 0x0023, .literal 63]
        (sent (.logical .bic .vs) [.immediate 0x0023, .literal 63] (two 0 1)) (two 0 1) :=
  ⟨by decide, rfl, two_issuable _ _, two_quiet _ _, rfl, by decide⟩

theorem witness_Shifts :
    (.vvsrll (.immediate 0xC123), .right, .vv, [.immediate 0xC123]) ∈ shiftForms (.immediate 0xC123) (.literal 0) ∧
      Runs (.shift .right .vv) [.immediate 0xC123]
        (sent (.shift .right .vv) [.immediate 0xC123] (two 32 1)) (two 32 1) :=
  ⟨by decide, rfl, two_issuable _ _, two_quiet _ _, rfl, by decide⟩

/-- T6.23: a reserved operand over zero. -/
theorem witness_FloatArithmetic :
    (.vvdivf (.immediate 0x0123), .f, .div, .vv, [.immediate 0x0123]) ∈ floatForms (.immediate 0x0123) (.literal 0) ∧
      Runs (.floatArith .f .div .vv) [.immediate 0x0123]
        (sent (.floatArith .f .div .vv) [.immediate 0x0123] (two 0x8000 0)) (two 0x8000 0) :=
  ⟨by decide, rfl, two_issuable _ _, two_quiet _ _, rfl, by decide⟩

theorem witness_IntegerCompares :
    (.vsgeql (.immediate 0x0026) (.literal 7), .vs, [.immediate 0x0026, .literal 7]) ∈
        integerCompareForms (.immediate 0x0026) (.literal 7) ∧
      Runs (.intCompare .vs) [.immediate 0x0026, .literal 7]
        (sent (.intCompare .vs) [.immediate 0x0026, .literal 7] (two 0 7)) (two 0 7) :=
  ⟨by decide, rfl, two_issuable _ _, two_quiet _ _, rfl, by decide⟩

/-- T8.3 and T8.11: with and without a reserved operand. -/
theorem witness_FloatCompares :
    (.vvgeqg (.immediate 0x0126), .g, .vv, [.immediate 0x0126]) ∈ floatCompareForms (.immediate 0x0126) (.literal 0) ∧
      (∀ s ∈ [two 0x4080 0x4080, two 0x4010 0xFFFFFFFFFFFF800F],
        Runs (.floatCompare .g .vv) [.immediate 0x0126] (sent (.floatCompare .g .vv) [.immediate 0x0126] s) s ∧
          Active s (sent (.floatCompare .g .vv) [.immediate 0x0126] s) 0) ∧
      FloatFmt.isRsvd .g 0x4080 = false ∧ FloatFmt.isRsvd .g 0xFFFFFFFFFFFF800F = true := by
  refine ⟨by decide, fun s hs => ?_, by decide, by decide⟩
  rcases List.mem_cons.mp hs with rfl | hs
  · exact ⟨⟨rfl, two_issuable _ _, two_quiet _ _, rfl, by decide⟩, by decide, .inl (by decide)⟩
  · rcases List.mem_singleton.mp hs with rfl
    exact ⟨⟨rfl, two_issuable _ _, two_quiet _ _, rfl, by decide⟩, by decide, .inl (by decide)⟩

theorem witness_Converts :
    .vvcvtrgl (.immediate 0x2F23) ∈ convertForms (.immediate 0x2F23) ∧
      Runs .convert [.immediate 0x2F23] (sent .convert [.immediate 0x2F23] (two 0 0x4024)) (two 0 0x4024) :=
  ⟨by decide, rfl, two_issuable _ _, two_quiet _ _, rfl, by decide⟩

theorem witness_Merges :
    (.vsmerge (.immediate 0x4023) (.immediate 0x0123456789ABCDEF), .vs,
        [.immediate 0x4023, .immediate 0x0123456789ABCDEF]) ∈
        mergeForms (.immediate 0x4023) (.immediate 0x0123456789ABCDEF) ∧
      Runs (.merge .vs) [.immediate 0x4023, .immediate 0x0123456789ABCDEF]
        (sent (.merge .vs) [.immediate 0x4023, .immediate 0x0123456789ABCDEF] (two 0 1)) (two 0 1) :=
  ⟨by decide, rfl, two_issuable _ _, two_quiet _ _, rfl, by decide⟩

/-- Length 64, every mask bit set (T11.9); position 63 is taken and goes to element 63. -/
def longest : State := launch.setVp { launch.vp with vlr := 64, vmr := 0xFFFFFFFFFFFFFFFF }

theorem witness_IotaCompresses :
    Runs .iota [.immediate 0x4005, .literal 4] (sent .iota [.immediate 0x4005, .literal 4] longest) longest ∧
      (longest.vp.vmr.getLsbD 63 == (controlWord (sent .iota [.immediate 0x4005, .literal 4] longest)).getLsbD 14) = true ∧
      ((List.range 63).filter fun i : Nat => longest.vp.vmr.getLsbD i ==
        (controlWord (sent .iota [.immediate 0x4005, .literal 4] longest)).getLsbD 14).length = 63 :=
  ⟨⟨rfl, ⟨rfl, rfl, rfl, rfl, rfl⟩, ⟨rfl, rfl, rfl, rfl⟩, rfl, by decide⟩, by decide, by decide⟩

/-! ### Vector memory access -/

/-- With no cached translation there is nothing to choose. -/
theorem vectorRow_of_empty (s : State) (e : QEntry) (pick : Quad) (va : Long) (hs : s.vp.tb = []) (he : e.tb = []) :
    vectorRow s e pick va = walkRow s va := by
  have h : staleRows s e va = [] := by
    unfold staleRows
    rw [hs, he]
    cases s.cfg.vectorTb <;> rfl
  unfold vectorRow
  rw [h]

/-- Where a set of addresses is mapped, the checks pass for every active element. -/
theorem references_of_decided (sz : ElemSize) (ad : Addressing) (e : QEntry) (write : Bool) (s : State) (pa : Fin 64 → Nat)
    (hs : s.vp.tb = []) (he : e.tb = [])
    (h : ∀ k : Fin 64, e.isActive s.vp.vmr k = true →
      checkRef s e.mode write sz.bytes (walkRow s (elemAddress ad e s.vp k)) (elemAddress ad e s.vp k) = .ok (pa k)) :
    References write sz ad e s pa := by
  intro k hk pick
  rw [vectorRow_of_empty s e pick _ hs he]
  exact h k hk

/-- VLDL with cntrl 0001, base 1000 hex, stride 4. -/
def vldlSpecs : List Spec := [.immediate 1, .mem (.absolute 0x1000), .literal 4]

theorem witness_Loads :
    (.vldl (.immediate 1) (.mem (.absolute 0x1000)) (.literal 4), .long, .strided, vldlSpecs) ∈
        loadForms (.immediate 1) (.mem (.absolute 0x1000)) (.literal 4) ∧
      Runs (.load .long .strided) vldlSpecs (sent (.load .long .strided) vldlSpecs loading) loading ∧
      References false .long .strided
        (entryOf (.load .long .strided) (sent (.load .long .strided) vldlSpecs loading) loading) loading
        (fun k => 0x1000 + 4 * k.val) :=
  ⟨by decide, ⟨rfl, loading_issuable, ⟨rfl, rfl, rfl, rfl⟩, rfl, by decide⟩, references_of_decided _ _ _ _ _ _ rfl rfl (by decide)⟩

/-- VGATHQ with cntrl 0022: Vb and Vc are V2. -/
def sameSpecs : List Spec := [.immediate 0x0022, .mem (.absolute 0x1000)]

theorem witness_GatherSameRegister :
    (.vgathq (.immediate 0x0022) (.mem (.absolute 0x1000)), .quad, .indexed, sameSpecs) ∈
        loadForms (.immediate 0x0022) (.mem (.absolute 0x1000)) (.literal 0) ∧
      Runs (.load .quad .indexed) sameSpecs (sent (.load .quad .indexed) sameSpecs loading) loading ∧
      fieldB (controlWord (sent (.load .quad .indexed) sameSpecs loading)) =
        fieldC (controlWord (sent (.load .quad .indexed) sameSpecs loading)) ∧
      References false .quad .indexed
        (entryOf (.load .quad .indexed) (sent (.load .quad .indexed) sameSpecs loading) loading) loading
        (fun k => 0x1000 + (loading.vp.elem 2 k).lo.toNat) :=
  ⟨by decide, ⟨rfl, loading_issuable, ⟨rfl, rfl, rfl, rfl⟩, rfl, by decide⟩, by decide,
    references_of_decided _ _ _ _ _ _ rfl rfl (by decide)⟩

/-- A masked gather that does not process element 0, whose mask bit carries an unreported exception. -/
def maskedGather : State := loading.setVp { loading.vp with vmr := 2, taint := { vmr := 1 } }

theorem witness_GatherSameRegister_masked :
    (let sps : List Spec := [.immediate 0xC022, .mem (.absolute 0x1000)]
     let o := sent (.load .quad .indexed) sps maskedGather
     (.vgathq (.immediate 0xC022) (.mem (.absolute 0x1000)), .quad, .indexed, sps) ∈
        loadForms (.immediate 0xC022) (.mem (.absolute 0x1000)) (.literal 0) ∧
      Runs (.load .quad .indexed) sps o maskedGather ∧ fieldB (controlWord o) = fieldC (controlWord o) ∧
      References false .quad .indexed (entryOf (.load .quad .indexed) o maskedGather) maskedGather
        (fun k => 0x1000 + (maskedGather.vp.elem 2 k).lo.toNat) ∧
      (0 : Fin 64).val < maskedGather.vp.vlr.toNat ∧ (controlWord o).getLsbD 15 = true ∧
      maskedGather.vp.taint.vmr.getLsbD 0 = true) :=
  ⟨by decide, ⟨rfl, ⟨rfl, rfl, rfl, rfl, rfl⟩, ⟨rfl, rfl, rfl, rfl⟩, rfl, by decide⟩, by decide,
    references_of_decided _ _ _ _ _ _ rfl rfl (by decide), by decide, by decide, by decide⟩

/-- VSCATL with cntrl 0021, base 2000 hex. -/
def vscatlSpecs : List Spec := [.immediate 0x0021, .mem (.absolute 0x2000)]

/-- The operands of VSCATL. -/
def vscatlOps : Operands := sent (.store .long .indexed) vscatlSpecs storing

/-- T12.19: elements 0 and 2 store to one place, and element 2, which none overlaps, is above element 0. -/
theorem witness_Stores :
    (.vscatl (.immediate 0x0021) (.mem (.absolute 0x2000)), .long, .indexed, vscatlSpecs) ∈
        storeForms (.immediate 0x0021) (.mem (.absolute 0x2000)) (.literal 0) ∧
      Runs (.store .long .indexed) vscatlSpecs vscatlOps storing ∧
      References true .long .indexed (entryOf (.store .long .indexed) vscatlOps storing) storing
        (fun k => 0x2000 + (storing.vp.elem 2 k).lo.toNat) ∧
      storing.mem.wf = true ∧
      (∀ k : Fin 64, ∀ g ∈ vscatlOps.guards, g < 0x2000 + (storing.vp.elem 2 k).lo.toNat ∨
        0x2000 + (storing.vp.elem 2 k).lo.toNat + 4 ≤ g) ∧
      Active storing vscatlOps 2 ∧
      (∀ j : Fin 64, j.val < storing.vp.vlr.toNat → 2 < j →
        0x2000 + (storing.vp.elem 2 j).lo.toNat + 4 ≤ 0x2000 + (storing.vp.elem 2 2).lo.toNat ∨
          0x2000 + (storing.vp.elem 2 2).lo.toNat + 4 ≤ 0x2000 + (storing.vp.elem 2 j).lo.toNat) :=
  ⟨by decide, ⟨rfl, storing_issuable, ⟨rfl, rfl, rfl, rfl⟩, rfl, by decide⟩,
    references_of_decided _ _ _ _ _ _ rfl rfl (by decide), by decide, by decide, ⟨by decide, .inl (by decide)⟩, by decide⟩

/-- An I/O page at 8000 hex. -/
def withIo : State := { launch with cfg := { launch.cfg with ioSpace := [(0x8000, 0x200)] } }

theorem witness_MisalignedReference :
    (0x1002 : Long).toNat % ElemSize.long.bytes ≠ 0 ∧ (0xFFFFFFFC : Long).toNat % ElemSize.quad.bytes ≠ 0 ∧
      withIo.cfg.setsVio = true ∧ placeOf (some row) 0x81FC = some 0x81FC ∧
      inRanges withIo.cfg.ioSpace 0x81FC ElemSize.long.bytes = true := by decide

/-- VLDL from 1002 hex: every reference fails (T12.5, T16.4). -/
def failingSpecs : List Spec := [.immediate 1, .mem (.absolute 0x1002), .literal 4]

/-- The operands of the failing load. -/
def failingOps (s : State) : Operands := sent (.load .long .strided) failingSpecs s

/-- A check that fails. -/
def failed (c : RefCheck) : Bool :=
  match c with
  | .fails _ => true
  | _ => false

/-- The failing load as queued. -/
def failingEntry (s : State) : QEntry := entryOf (.load .long .strided) (failingOps s) s

/-- Every active reference of the failing load fails, whatever is chosen, and none is refused. -/
theorem failing_checks (s : State) (hs : s.vp.tb = [])
    (h : ∀ k : Fin 64, k.val < s.vp.vlr.toNat →
      failed (checkRef s s.mode false ElemSize.long.bytes
        (walkRow s (elemAddress .strided (failingEntry s) s.vp k)) (elemAddress .strided (failingEntry s) s.vp k)) = true) :
    ∀ k : Fin 64, Active s (failingOps s) k → ∀ pick, ∃ fs,
      checkRef s s.mode false ElemSize.long.bytes
        (vectorRow s (failingEntry s) pick (elemAddress .strided (failingEntry s) s.vp k))
        (elemAddress .strided (failingEntry s) s.vp k) = .fails fs := by
  intro k hk pick
  have hf := h k hk.1
  rw [vectorRow_of_empty s _ pick _ hs rfl]
  unfold failed at hf
  split at hf
  · exact ⟨_, by assumption⟩
  · cases hf

theorem witness_AsynchronousException :
    (.vldl (.immediate 1) (.mem (.absolute 0x1002)) (.literal 4), .load .long .strided, failingSpecs) ∈
        lengthForms (.immediate 1) (.mem (.absolute 0x1002)) (.literal 4) ∧
      Runs (.load .long .strided) failingSpecs (failingOps loading) loading ∧ loading.cfg.isAsync = true ∧
      Active loading (failingOps loading) 0 ∧
      ∀ k : Fin 64, Active loading (failingOps loading) k → ∀ pick, ∃ fs,
        checkRef loading loading.mode false ElemSize.long.bytes
          (vectorRow loading (failingEntry loading) pick (elemAddress .strided (failingEntry loading) loading.vp k))
          (elemAddress .strided (failingEntry loading) loading.vp k) = .fails fs :=
  ⟨by decide, ⟨rfl, loading_issuable, ⟨rfl, rfl, rfl, rfl⟩, rfl, by decide⟩, rfl, ⟨by decide, .inl (by decide)⟩,
    failing_checks _ rfl (by decide)⟩

/-- The same machine with the synchronous method. -/
def loadingSync : State := { loading with cfg := { loading.cfg with mmMethod := .sync } }

theorem witness_SynchronousException :
    Runs (.load .long .strided) failingSpecs (failingOps loadingSync) loadingSync ∧ loadingSync.cfg.isAsync = false ∧
      Active loadingSync (failingOps loadingSync) 0 ∧
      ∀ k : Fin 64, Active loadingSync (failingOps loadingSync) k → ∀ pick, ∃ fs,
        checkRef loadingSync loadingSync.mode false ElemSize.long.bytes
          (vectorRow loadingSync (failingEntry loadingSync) pick
            (elemAddress .strided (failingEntry loadingSync) loadingSync.vp k))
          (elemAddress .strided (failingEntry loadingSync) loadingSync.vp k) = .fails fs :=
  ⟨⟨rfl, ⟨rfl, rfl, rfl, rfl, rfl⟩, ⟨rfl, rfl, rfl, rfl⟩, rfl, by decide⟩, rfl, ⟨by decide, .inl (by decide)⟩,
    failing_checks _ rfl (by decide)⟩

/-- A store to what is mapped everywhere but at 10000 hex: its last reference fails, the others pass. -/
def edgeSpecs : List Spec := [.immediate 1, .mem (.absolute 0xFFF8), .literal 4]

/-- The operands of the store at the edge. -/
def edgeOps : Operands := sent (.store .long .strided) edgeSpecs loading

/-- The store at the edge as queued. -/
def edgeEntry : QEntry := entryOf (.store .long .strided) edgeOps loading

theorem witness_AsynchronousException_store :
    Runs (.store .long .strided) edgeSpecs edgeOps loading ∧ Active loading edgeOps 2 ∧
      (∀ pick, vectorRow loading edgeEntry pick 0x10000 = none) ∧
      elemAddress .strided edgeEntry loading.vp 2 = 0x10000 ∧
      failed (checkRef loading loading.mode true ElemSize.long.bytes none 0x10000) = true ∧
      ∀ g ∈ edgeOps.guards, g < 0xFFF8 :=
  ⟨⟨rfl, loading_issuable, ⟨rfl, rfl, rfl, rfl⟩, rfl, by decide⟩, ⟨by decide, .inl (by decide)⟩,
    fun pick => (vectorRow_of_empty _ _ pick _ rfl rfl).trans rfl, by decide, by decide, by decide⟩

theorem witness_RetryCompletes_load :
    suspendedLoad.cfg.isAsync = true ∧ suspendedLoad.vp.mf = true ∧ suspendedLoad.vp.halted = false ∧
      suspendedLoad.vp.queue = [suspendedEntry] ∧ suspendedEntry.suspended = true ∧ suspendedEntry.copy = none ∧
      suspendedEntry.op = .load .long .strided ∧ suspendedEntry.checked = none ∧ suspendedEntry.len.toNat ≤ 64 ∧
      (suspendedEntry.isActive suspendedLoad.vp.vmr 1 = true ∧ suspendedEntry.done.getLsbD 1 = false ∧
        suspendedEntry.left.getLsbD 1 = false) ∧
      References false .long .strided suspendedEntry suspendedLoad (fun k => 0x1000 + 4 * k.val) ∧
      (∃ o, evalOperands 2 (Instr.accesses (.sync (.literal 4) (.reg 0))) (Instr.operands (.sync (.literal 4) (.reg 0)))
        suspendedLoad = .ok o) ∧
      suspendedLoad.cfg.vpPresent = true ∧ suspendedLoad.cpu.venSeen = true ∧ suspendedLoad.vp.pmf = false ∧
      suspendedLoad.cpu.mapen = true :=
  ⟨rfl, rfl, rfl, rfl, rfl, rfl, rfl, rfl, by decide, by decide, references_of_decided _ _ _ _ _ _ rfl rfl (by decide),
    ⟨_, rfl⟩, rfl, rfl, rfl, rfl⟩

/-- The load is to be retried, and an add is queued behind it. -/
def retrying : State :=
  suspendedLoad.setVp { suspendedLoad.vp with queue := [{ suspendedEntry with phase := .retrying }, addEntry] }

theorem witness_RetryCompletes_behind :
    retrying.vp.queue[0]? = some { suspendedEntry with phase := .retrying } ∧ retrying.vp.queue[1]? = some addEntry ∧
      ({ suspendedEntry with phase := .retrying } : QEntry).retrying = true ∧ addEntry.started = false :=
  ⟨rfl, rfl, rfl, rfl⟩

/-- A scatter, suspended with element 0 and the first byte of element 3 stored. -/
def suspendedScatter : QEntry :=
  { op := .store .long .indexed, cntrl := 0x0021, base := 0x2000, len := 4, fault := some notValid, done := 1,
    parts := [⟨0, 0, 4, 0x2008, 0⟩, ⟨3, 0, 1, 0x2004, 0⟩] }

/-- The state around it; element 3 stores at 2004 hex, which no other access touches. -/
def suspendedStore : State := storing.setVp { storing.vp with vpsr := 0x21, queue := [suspendedScatter] }

theorem witness_RetryCompletes_store :
    suspendedStore.cfg.isAsync = true ∧ suspendedStore.vp.mf = true ∧ suspendedStore.vp.halted = false ∧
      suspendedStore.vp.queue = [suspendedScatter] ∧ suspendedScatter.suspended = true ∧
      suspendedScatter.op = .store .long .indexed ∧ suspendedScatter.checked = none ∧ suspendedScatter.len.toNat ≤ 64 ∧
      (suspendedScatter.isActive suspendedStore.vp.vmr 3 = true ∧ suspendedScatter.done.getLsbD 3 = false ∧
        suspendedScatter.left.getLsbD 3 = false) ∧
      References true .long .indexed suspendedScatter suspendedStore
        (fun k => 0x2000 + (suspendedStore.vp.elem 2 k).lo.toNat) ∧
      suspendedScatter.guards = [] ∧
      (∀ j : Fin 64, suspendedScatter.isActive suspendedStore.vp.vmr j = true → j ≠ 3 →
        0x2000 + (suspendedStore.vp.elem 2 j).lo.toNat + 4 ≤ 0x2004 ∨
          0x2004 + 4 ≤ 0x2000 + (suspendedStore.vp.elem 2 j).lo.toNat) ∧
      (∀ q ∈ suspendedScatter.parts, q.elem ≠ 3 → q.pa + q.len ≤ 0x2004 ∨ 0x2004 + 4 ≤ q.pa) ∧
      (∃ q ∈ suspendedScatter.parts, q.elem = 3 ∧ q.off ≤ 0 ∧ 0 < q.off + q.len) ∧
      ∀ q ∈ suspendedScatter.parts, q.elem = 3 → 1 < q.off ∨ q.off + q.len ≤ 1 :=
  ⟨rfl, rfl, rfl, rfl, rfl, rfl, rfl, by decide, by decide, references_of_decided _ _ _ _ _ _ rfl rfl (by decide), rfl,
    by decide, by decide, ⟨⟨3, 0, 1, 0x2004, 0⟩, by decide, rfl, by decide, by decide⟩, by decide⟩

theorem witness_ModifyIntent :
    (.vscatl (.immediate 0x2021) (.mem (.absolute 0x2000)), .long, .indexed,
        [.immediate 0x2021, .mem (.absolute 0x2000)]) ∈
        storeForms (.immediate 0x2021) (.mem (.absolute 0x2000)) (.literal 0) ∧
      (∃ o, evalOperands 2 (VOp.accesses (.store .long .indexed)) [.immediate 0x2021, .mem (.absolute 0x2000)] storing =
        .ok o ∧ (controlWord o).getLsbD 13 = true) ∧
      Issuable storing ∧ secondSpec Spec.isImmediate [.immediate 0x2021, .mem (.absolute 0x2000)] = false :=
  ⟨by decide, ⟨_, rfl, by decide⟩, storing_issuable, rfl⟩

theorem witness_ModifyIntent_load : loadEntry.op = .load .long .strided := rfl

theorem witness_MemoryReadAfterWrite : loading.mem.wf = true := by decide

/-! ### MTVP, VSYNC, MFVP -/

/-- By their own constructors, and by MTVP with the register number in a register. -/
theorem witness_MoveToMask :
    (∃ o, evalOperands 2 [.rw, .rl] [.literal 2, .immediate 0xFFFF] moving = .ok o) ∧
      (∃ o, evalOperands 2 [.rw, .rl] [.literal 3, .immediate 0xFFFF] moving = .ok o) ∧
      (∃ o, evalOperands 2 [.rw, .rl] [.reg 4, .immediate 0xFFFF] (moving.setReg 4 3) = .ok o ∧
        ctrlOfRegnum (moving.setReg 4 3).cfg.regnum ((o.value 0).truncate 16) = some .vmrhi) ∧
      Issuable moving ∧ Quiet moving ∧ Issuable (moving.setReg 4 3) ∧ Quiet (moving.setReg 4 3) :=
  ⟨⟨_, rfl⟩, ⟨_, rfl⟩, ⟨_, rfl, by decide⟩, moving_issuable, ⟨rfl, rfl, rfl, rfl⟩, ⟨rfl, rfl, rfl, rfl, rfl⟩,
    ⟨rfl, rfl, rfl, rfl⟩⟩

/-- The largest source that is written, 7F hex, and the smallest that is refused, 80 hex. -/
theorem witness_MoveToLengthAndCount :
    (∃ o, evalOperands 2 [.rw, .rl] [.literal 1, .immediate 0x7F] moving = .ok o ∧ (o.value 1).lo.toNat < 2 ^ 7) ∧
      (∃ o, evalOperands 2 [.rw, .rl] [.literal 0, .immediate 0x80] moving = .ok o ∧ 2 ^ 7 ≤ (o.value 1).lo.toNat) ∧
      (∃ o, evalOperands 2 [.rw, .rl] [.reg 4, .immediate 0x7F] (moving.setReg 4 1) = .ok o ∧
        ctrlOfRegnum (moving.setReg 4 1).cfg.regnum ((o.value 0).truncate 16) = some .vlr) ∧
      Issuable moving ∧ Quiet moving ∧ Issuable (moving.setReg 4 1) ∧ Quiet (moving.setReg 4 1) :=
  ⟨⟨_, rfl, by decide⟩, ⟨_, rfl, by decide⟩, ⟨_, rfl, by decide⟩, moving_issuable, ⟨rfl, rfl, rfl, rfl⟩,
    ⟨rfl, rfl, rfl, rfl, rfl⟩, ⟨rfl, rfl, rfl, rfl⟩⟩

/-- A store of three longwords at 1000 hex from V1, as queued. -/
def storeEntry : QEntry := { loadEntry with op := .store .long .strided }

/-- The store, a VSYNC, and the load of the same places, all pending. -/
def synchronised : State := loading.setVp { loading.vp with queue := [storeEntry, { op := .vsync }, loadEntry] }

/-- Where element `i` of the two goes. -/
def placeAt (write : Bool) (i : Nat) : Spot := ⟨write, 0x1000 + 4 * i, 4, [0x1000 + 4 * i]⟩

/-- All clauses; the last for two loads with a VSYNC between them. -/
theorem witness_VsyncOrders :
    (∃ o, evalOperands 2 [.rw] [.literal 0] launch = .ok o ∧ (o.value 0).truncate 16 = launch.cfg.regnum.vsync) ∧
      Issuable launch ∧ Quiet launch ∧
      (synchronised.vp.queue[0]? = some storeEntry ∧ synchronised.vp.queue[1]? = some { op := .vsync } ∧
        synchronised.vp.queue[2]? = some loadEntry) ∧
      ((viewTo synchronised 0).openElems storeEntry).getLsbD 2 = true ∧
      spotOf synchronised (viewTo synchronised 0) storeEntry 2 = some (placeAt true 2) ∧
      spotOf synchronised (viewTo synchronised 2) loadEntry 2 = some (placeAt false 2) ∧
      (placeAt true 2).conflicts (placeAt false 2) = true ∧
      (let q : List QEntry := [loadEntry, { op := .vsync }, loadEntry]
       q[2]? = some loadEntry ∧ ∀ e ∈ q.take 2, e.op = .load .long .strided ∨ e.op = .vsync) :=
  ⟨⟨_, rfl, by decide⟩, launch_issuable, launch_quiet, ⟨rfl, rfl, rfl⟩, by decide, by decide, by decide, by decide, rfl,
    by decide⟩

/-- A store and a load of its place without a VSYNC, neither started: the load can execute. -/
theorem witness_VsyncOrders_none :
    unordered.vp.queue[1]? = some { loadEntry with cntrl := 2, len := 1 } ∧
      (∀ e ∈ unordered.vp.queue.take 1, e.op ≠ .vsync) ∧ (∀ e ∈ unordered.vp.queue, e.fault = none ∧ e.started = false) ∧
      unordered.vp.halted = false ∧
      (runnable unordered 1 (viewAt unordered 1 { loadEntry with cntrl := 2, len := 1 })
        { loadEntry with cntrl := 2, len := 1 }).getLsbD 0 = true :=
  ⟨rfl, by decide, by decide, rfl, by decide⟩

/-- MFVCR and its kind to a register, MFVP to memory. -/
theorem witness_ReadControlRegisters :
    (∃ o, evalOperands 2 [.rw, .wl] [.literal 3, .reg 14] moving = .ok o ∧ o.dest 1 = .register 14) ∧
      (∃ o pas, evalOperands 2 [.rw, .wl] [.literal 1, .mem (.absolute 0x3000)] moving = .ok o ∧
        o.dest 1 = .memory pas ∧ pas.Nodup ∧
        ctrlOfRegnum moving.cfg.regnum ((o.value 0).truncate 16) = some .vlr) ∧
      Issuable moving ∧ Quiet moving ∧ NothingUnreported moving :=
  ⟨⟨_, rfl, rfl⟩, ⟨_, [0x3000, 0x3001, 0x3002, 0x3003], rfl, rfl, by decide, by decide⟩, moving_issuable,
    ⟨rfl, rfl, rfl, rfl⟩, rfl, rfl, rfl⟩

theorem witness_SynchronisationCompletes :
    (∃ o, evalOperands 2 [.rw, .wl] [.literal 4, .reg 0] moving = .ok o ∧
      mfvpOfRegnum moving.cfg.regnum ((o.value 0).truncate 16) = some .sync) ∧
      (∃ o, evalOperands 2 [.rw, .wl] [.literal 5, .mem (.absolute 0x3000)] moving = .ok o ∧
        mfvpOfRegnum moving.cfg.regnum ((o.value 0).truncate 16) = some .msync) ∧
      Issuable moving ∧ Quiet moving ∧ NothingUnreported moving ∧ moving.mem.wf = true :=
  ⟨⟨_, rfl, by decide⟩, ⟨_, rfl, by decide⟩, moving_issuable, ⟨rfl, rfl, rfl, rfl⟩, ⟨rfl, rfl, rfl⟩, rfl⟩

/-- An exception is unreported and everything depends on it. -/
def unreported : State :=
  moving.setVp { moving.vp with aexPending := true, taint := { vmr := 0x0000000100000001, vcr := true, mem := true } }

theorem witness_MfvpReportsArithmetic :
    unreported.vp.aexPending = true ∧ unreported.vp.taint.mem = true ∧ unreported.vp.taint.vcr = true ∧
      unreported.vp.taint.vmr.lo ≠ 0 ∧ unreported.vp.taint.vmr.hi ≠ 0 ∧
      [0, 2, 3, 4, 5].map (mfvpOfRegnum unreported.cfg.regnum) =
        [some (.read .vcr), some (.read .vmrlo), some (.read .vmrhi), some .sync, some .msync] ∧
      (∃ o, evalOperands 2 [.rw, .wl] [.literal 3, .reg 0] unreported = .ok o) ∧ Issuable unreported ∧ Quiet unreported :=
  ⟨rfl, rfl, rfl, by decide, by decide, by decide, ⟨_, rfl⟩, ⟨rfl, rfl, rfl, rfl, rfl⟩, ⟨rfl, rfl, rfl, rfl⟩⟩

/-- An unreported exception in V1[0]. -/
def tainting : State :=
  let s := two 1 2
  s.setVp { s.vp with aexPending := true, taint := { v := s.vp.taint.v.set 1 1 } }

/-- Every way in which a result comes to depend: it overflows, its first source does, and neither. -/
theorem witness_DependencesOfResults :
    (.vvaddl (.immediate 0x2123), .intArith .add .vv, [.immediate 0x2123]) ∈
        lengthForms (.immediate 0x2123) (.literal 0) (.literal 0) ∧
      (VOp.intArith .add .vv).isMemory = false ∧
      (∀ s ∈ [two 0x7FFFFFFF 1, tainting], Runs (.intArith .add .vv) [.immediate 0x2123]
        (sent (.intArith .add .vv) [.immediate 0x2123] s) s ∧
        Active s (sent (.intArith .add .vv) [.immediate 0x2123] s) 0) ∧
      tainting.vp.tainted 1 0 = true := by
  refine ⟨by decide, rfl, fun s hs => ?_, by decide⟩
  rcases List.mem_cons.mp hs with rfl | hs
  · exact ⟨⟨rfl, two_issuable _ _, two_quiet _ _, rfl, by decide⟩, by decide, .inl (by decide)⟩
  · rcases List.mem_singleton.mp hs with rfl
    exact ⟨⟨rfl, ⟨rfl, rfl, rfl, rfl, rfl⟩, ⟨rfl, rfl, rfl, rfl⟩, rfl, by decide⟩, by decide, .inl (by decide)⟩

/-! ### Rules over many instructions -/

/-- Length zero. -/
def empty : State := launch.setVp { launch.vp with vlr := 0 }

theorem witness_ZeroLength :
    (.vscatl (.immediate 0x0021) (.mem (.absolute 0x2000)), .store .long .indexed, vscatlSpecs) ∈
        lengthForms (.immediate 0x0021) (.mem (.absolute 0x2000)) (.literal 0) ∧
      Runs (.store .long .indexed) vscatlSpecs (sent (.store .long .indexed) vscatlSpecs empty) empty ∧
      Runs .iota [.immediate 0x4005, .literal 4] (sent .iota [.immediate 0x4005, .literal 4] empty) empty ∧
      empty.vp.vlr = 0 :=
  ⟨by decide, ⟨rfl, ⟨rfl, rfl, rfl, rfl, rfl⟩, ⟨rfl, rfl, rfl, rfl⟩, rfl, by decide⟩,
    ⟨rfl, ⟨rfl, rfl, rfl, rfl, rfl⟩, ⟨rfl, rfl, rfl, rfl⟩, rfl, by decide⟩, rfl⟩

/-- The same with room for one instruction. -/
def delayedFull : State := { delayed with cfg := { delayed.cfg with queueDepth := some 1 } }

/-- What is sent for the load. -/
def vldlOps (s : State) : Operands := sent (.load .long .strided) vldlSpecs s

/-- Both clauses. -/
theorem witness_IssueQueues :
    (.vldl (.immediate 1) (.mem (.absolute 0x1000)) (.literal 4), .load .long .strided, vldlSpecs) ∈
        lengthForms (.immediate 1) (.mem (.absolute 0x1000)) (.literal 4) ∧
      (∀ s ∈ [delayed, delayedFull], evalOperands 2 (VOp.accesses (.load .long .strided)) vldlSpecs s = .ok (vldlOps s) ∧
        Issuable s ∧ Acceptable (.load .long .strided) vldlSpecs (vldlOps s) s ∧ (currentLength s.vp).toNat ≤ 64 ∧
        s.sched ≠ [] ∧ s.cfg.isAsync = true) ∧
      queueFull delayed = false ∧ (∀ q, Waits delayed.vp (addEntry :: q)) ∧
      delayedFull.cfg.queueDepth = some 1 ∧ delayedFull.vp.queue = [addEntry] ∧ Waits delayedFull.vp [addEntry] ∧
      addEntry.fault = none ∧ addEntry.started = false ∧ delayedFull.vp.halted = false := by
  refine ⟨by decide, fun s hs => ?_, by decide, fun q => .inr ⟨_, q, rfl, 0, by decide, by decide⟩, rfl, rfl,
    .inr ⟨_, [], rfl, 0, by decide, by decide⟩, rfl, rfl, rfl⟩
  rcases List.mem_cons.mp hs with rfl | hs
  · exact ⟨rfl, ⟨rfl, rfl, rfl, rfl, rfl⟩, rfl, by decide, by decide, rfl⟩
  · rcases List.mem_singleton.mp hs with rfl
    exact ⟨rfl, ⟨rfl, rfl, rfl, rfl, rfl⟩, rfl, by decide, by decide, rfl⟩

/-- An addition and a load are pending, and neither has started. -/
def twoPending : State := delayed.setVp { delayed.vp with queue := [addEntry, loadEntry] }

theorem witness_IssueQueues_order :
    twoPending.vp.queue[0]? = some addEntry ∧ twoPending.vp.queue[1]? = some loadEntry ∧ addEntry.started = false ∧
      (viewAt twoPending 0 addEntry).complete addEntry = false ∧ loadEntry.started = false :=
  ⟨rfl, rfl, rfl, by decide, rfl⟩

/-- The same behind a load that is to be retried. -/
def twoHeldUp : State := retrying.setVp { retrying.vp with queue := retrying.vp.queue ++ [loadEntry] }

theorem witness_IssueQueues_heldUp :
    twoHeldUp.vp.queue[1]? = some addEntry ∧ twoHeldUp.vp.queue[2]? = some loadEntry ∧
      (viewAt twoHeldUp 1 addEntry).complete addEntry = false ∧ heldUp twoHeldUp.vp 1 addEntry = true :=
  ⟨rfl, rfl, by decide, by decide⟩

/-- Both ways: the effect, and the disabled fault. -/
theorem witness_SystemStateKept :
    (∃ t, exec (.vvaddl (.immediate 0x0123)) (two 1 2) = .next t) ∧
      ∃ t, exec (.vvaddl (.immediate 0x0123))
        { launch with cpu := { launch.cpu with venSeen := false, sps := launch.cpu.sps.set 0 0x800 } } = .next t :=
  ⟨next_of_goesOn (by decide), next_of_goesOn (by decide)⟩

/-- S_VEN is clear; the kernel stack is at 800 hex. -/
def disabled : State :=
  { launch with cpu := { launch.cpu with venSeen := false, sps := launch.cpu.sps.set 0 0x800 } }

theorem witness_DisabledFault :
    (∃ o, evalOperands 2 (Instr.accesses (.vldl (.immediate 1) (.mem (.absolute 0x1000)) (.literal 4)))
      (Instr.operands (.vldl (.immediate 1) (.mem (.absolute 0x1000)) (.literal 4))) disabled = .ok o) ∧
      disabled.cfg.vpPresent = true ∧ disabled.cpu.venSeen = false ∧
      ∃ t, takeException .disabled { disabled with
        vp := { disabled.vp with
          aexPending := false, aexLate := false, taint := {}, queue := disabled.vp.queue.map QEntry.forget }
        saved := disabled.saved.map fun r => { r with queue := r.queue.map QEntry.forget } } = .next t :=
  ⟨⟨_, rfl⟩, rfl, rfl, next_of_goesOn (by decide)⟩

/-- No vector processor. -/
def absent : State := { disabled with cfg := { disabled.cfg with vpPresent := false } }

/-- An instruction whose operands are evaluated and one with an operand that is refused; MTPR and MFPR. -/
theorem witness_NoVectorProcessor :
    (∃ o, evalOperands 2 (Instr.accesses (.mtvlr (.literal 1) (.literal 4)))
      (Instr.operands (.mtvlr (.literal 1) (.literal 4))) absent = .ok o) ∧
      evalOperands 2 (Instr.accesses (.mfvp (.literal 1) (.immediate 4)))
        (Instr.operands (.mfvp (.literal 1) (.immediate 4))) absent = .refused .immediateDestination ∧
      absent.cfg.vpPresent = false ∧ (∃ t, takeException .reservedInstr absent = .next t) ∧ absent.mode = 0 ∧
      (∃ o, evalOperands 1 [.rl, .rl] [.immediate 0xFFFFFFFF, .immediate 0x90] absent = .ok o ∧ (o.value 1).lo = 0x90) ∧
      ∀ n ∈ ([0x90, 0x92] : List Quad), ∃ o, evalOperands 1 [.rl, .wl] [.immediate n, .reg 0] absent = .ok o ∧
        (o.value 0).lo = n.lo ∧ o.dest 1 = .register 0 :=
  ⟨⟨_, rfl⟩, rfl, rfl, next_of_goesOn (by decide), by decide, ⟨_, rfl, by decide⟩, fun _ _ => ⟨_, rfl, rfl, rfl⟩⟩

/-- A memory-management exception is pending (T16.4). -/
def pending : State :=
  suspendedLoad.setVp { suspendedLoad.vp with vpsr := 0x61, pendingMm := some notValid }

theorem witness_PendingFaultReported :
    (∃ o, evalOperands 2 (Instr.accesses (.sync (.literal 4) (.reg 0)))
      (Instr.operands (.sync (.literal 4) (.reg 0))) pending = .ok o) ∧
      pending.cfg.vpPresent = true ∧ pending.cpu.venSeen = true ∧ pending.cfg.isAsync = true ∧ pending.vp.pmf = true ∧
      pending.vp.pendingMm = some notValid :=
  ⟨⟨_, rfl⟩, rfl, rfl, rfl, rfl, rfl⟩

/-- A frame of two longwords and one of four. -/
theorem witness_TakingAnException :
    (∃ pas, scalarTranslateBytes disabled 0 true 0x7F8 8 = .ok pas ∧ pas.Nodup) ∧
      ∃ pas, scalarTranslateBytes disabled 0 true 0x7F0 16 = .ok pas ∧ pas.Nodup :=
  ⟨⟨_, rfl, by decide⟩, ⟨_, rfl, by decide⟩⟩

theorem witness_ExceptionThenRei :
    (∀ f, Exc.disabled ≠ .mm f) ∧ ∃ t pas, takeException .disabled disabled = .next t ∧
      disabled.cpu.sps[exceptionStack disabled.cpu.psl] - 8 = 0x7F8 ∧
      scalarTranslateBytes disabled 0 true 0x7F8 8 = .ok pas ∧ scalarTranslateBytes t 0 false 0x7F8 8 = .ok pas ∧
      pas.Nodup :=
  ⟨(fun f h => by cases h), _, _, rfl, rfl, rfl, rfl, by decide⟩

/-- The same with length 65. -/
def tooLong : State := launch.setVp { launch.vp with vlr := 65 }

/-- Memory management disabled. -/
def unmapped : State := { launch with cpu := { launch.cpu with mapen := false } }

/-- The first clause: a nonzero should-be-zero bit, compare function 3, convert function 14, a short literal as floating
scalar operand, an immediate base. -/
theorem witness_RefusedByTheSpec_forms :
    (∃ o, evalOperands 2 (VOp.accesses (.intArith .add .vv)) [.immediate 0x1123] launch = .ok o ∧
      ShouldBeZero (.intArith .add .vv) (controlWord o)) ∧
      (∃ o, evalOperands 2 (VOp.accesses (.intCompare .vv)) [.immediate 0x0123] launch = .ok o ∧
        (controlWord o).toNat % 8 ∈ [3, 7]) ∧
      (∃ o, evalOperands 2 (VOp.accesses .convert) [.immediate 0x0E23] launch = .ok o ∧
        (controlWord o).toNat / 2 ^ 8 % 16 ∈ [0, 11, 14]) ∧
      (∃ o, evalOperands 2 (VOp.accesses (.floatArith .f .add .vs)) [.immediate 0x0023, .literal 8] launch = .ok o ∧
        Meaningless (.floatArith .f .add .vs) [.immediate 0x0023, .literal 8] (controlWord o)) ∧
      (∃ o, evalOperands 2 (VOp.accesses (.load .long .strided)) [.immediate 1, .immediate 8, .literal 4] launch = .ok o ∧
        Meaningless (.load .long .strided) [.immediate 1, .immediate 8, .literal 4] (controlWord o)) ∧
      Issuable launch :=
  ⟨⟨_, rfl, show _ = true by decide⟩, ⟨_, rfl, by decide⟩, ⟨_, rfl, by decide⟩,
    ⟨_, rfl, .inr (.inr (.inr (.inl ⟨⟨.f, .add, .inl rfl⟩, 8, rfl⟩)))⟩,
    ⟨_, rfl, .inr (.inr (.inr (.inr ⟨rfl, 8, rfl⟩)))⟩, launch_issuable⟩

/-- The other clauses: length 65, unassigned register numbers, memory management disabled. -/
theorem witness_RefusedByTheSpec_rest :
    (∃ o, evalOperands 2 (VOp.accesses (.intArith .add .vv)) [.immediate 0x0123] tooLong = .ok o ∧
        Acceptable (.intArith .add .vv) [.immediate 0x0123] o tooLong) ∧
      Issuable tooLong ∧ tooLong.vp.queue = [] ∧ 64 < tooLong.vp.vlr.toNat ∧
      (∃ o, evalOperands 2 [.rw, .rl] [.literal 4, .literal 0] launch = .ok o ∧
        ctrlOfRegnum launch.cfg.regnum ((o.value 0).truncate 16) = none) ∧
      (∃ o, evalOperands 2 [.rw, .wl] [.literal 6, .reg 0] launch = .ok o ∧
        mfvpOfRegnum launch.cfg.regnum ((o.value 0).truncate 16) = none) ∧
      (∃ o, evalOperands 2 [.rw] [.literal 1] launch = .ok o ∧
        (o.value 0).truncate 16 ≠ launch.cfg.regnum.vsync) ∧
      (∃ o, evalOperands 2 (Instr.accesses (.sync (.literal 4) (.reg 0)))
        (Instr.operands (.sync (.literal 4) (.reg 0))) unmapped = .ok o) ∧
      unmapped.cfg.vpPresent = true ∧ unmapped.cpu.venSeen = true ∧ unmapped.vp.pmf = false ∧
      unmapped.cpu.mapen = false :=
  ⟨⟨_, rfl, rfl⟩, ⟨rfl, rfl, rfl, rfl, rfl⟩, rfl, by decide, ⟨_, rfl, by decide⟩, ⟨_, rfl, by decide⟩,
    ⟨_, rfl, by decide⟩, ⟨_, rfl⟩, rfl, rfl, rfl, rfl⟩

/-- VSCATL over its own control word, which lies at 204 hex: base 200 hex, offset 4 in element 3 of V2. -/
def overSpecs : List Spec := [.immediate 0x0021, .mem (.absolute 0x200)]

/-- The instruction byte at 200 hex was written by a vector store. -/
def overwrittenCode : State := { ready1 with vstores := [0x200] }

theorem witness_RefusedOverwrites :
    (Runs (.store .long .indexed) overSpecs (sent (.store .long .indexed) overSpecs storing) storing ∧
      References true .long .indexed
        (entryOf (.store .long .indexed) (sent (.store .long .indexed) overSpecs storing) storing) storing
        (fun k => 0x200 + (storing.vp.elem 2 k).lo.toNat) ∧
      Active storing (sent (.store .long .indexed) overSpecs storing) 3 ∧
      0x204 ∈ (sent (.store .long .indexed) overSpecs storing).guards) ∧
      ∃ s' pa, advance overwrittenCode = .next s' ∧ scalarTranslate s' s'.mode false s'.cpu.pc = .ok pa ∧
        pa ∈ s'.vstores :=
  ⟨⟨⟨rfl, storing_issuable, ⟨rfl, rfl, rfl, rfl⟩, rfl, by decide⟩, references_of_decided _ _ _ _ _ _ rfl rfl (by decide),
    ⟨by decide, .inl (by decide)⟩, by decide⟩, overwrittenCode.flushAll.seeVen, 0x200, rfl, by decide, by decide⟩

/-! ### The processor registers of the vector processor -/

/-- Operands of MTPR: a value and a register number. -/
theorem mtpr_operands (v n : Quad) (s : State) :
    ∃ o, evalOperands 1 [.rl, .rl] [.immediate v, .immediate n] s = .ok o ∧ o.value 0 = v ∧ o.value 1 = n :=
  ⟨_, rfl, rfl, rfl⟩

/-- Operands of MFPR: a register number and R0. -/
theorem mfpr_operands (n : Quad) (s : State) :
    ∃ o, evalOperands 1 [.rl, .wl] [.immediate n, .reg 0] s = .ok o ∧ o.value 0 = n ∧ o.dest 1 = .register 0 :=
  ⟨_, rfl, rfl, rfl⟩

/-- Every bit that the statement is about; and with MF written while a load is suspended. -/
theorem witness_MtprVpsr :
    (∃ o, evalOperands 1 [.rl, .rl] [.immediate 0x03000061, .immediate 0x90] launch = .ok o ∧
      (o.value 1).lo = 0x90 ∧ (o.value 0).lo &&& ~~~0x03000061 = 0) ∧
      launch.mode = 0 ∧ launch.cfg.vpPresent = true ∧ launch.vp.flushOnEnable = false ∧
      (∃ o, evalOperands 1 [.rl, .rl] [.immediate 0x21, .immediate 0x90] suspendedLoad = .ok o ∧
        (o.value 1).lo = 0x90 ∧ (o.value 0).lo.getLsbD 5 = true) ∧
      suspendedLoad.mode = 0 ∧ suspendedLoad.cfg.vpPresent = true ∧ suspendedLoad.vp.flushOnEnable = false ∧
      suspendedLoad.vp.mf = true :=
  ⟨⟨_, rfl, by decide, by decide⟩, by decide, rfl, rfl, ⟨_, rfl, by decide, by decide⟩, by decide, rfl, rfl, rfl⟩

/-- A MTVMRLO behind a suspended load. -/
def maskBehind : State :=
  suspendedLoad.setVp { suspendedLoad.vp with queue := [suspendedEntry, { op := .mtvp .vmrlo, scalar := 5 }] }

theorem witness_MtprVpsrReset_behind :
    busy maskBehind = false ∧ maskBehind.mode = 0 ∧ maskBehind.sched = [] ∧ maskBehind.cfg.vpPresent = true ∧
      ∃ o, evalOperands 1 [.rl, .rl] [.literal 2, .immediate 0x90] maskBehind = .ok o ∧ (o.value 1).lo = 0x90 ∧
        (o.value 0).lo = 2 :=
  ⟨by decide, by decide, rfl, rfl, _, rfl, by decide, by decide⟩

/-- Idle, busy, and with a suspended load. -/
theorem witness_MtprVpsrReset :
    (∃ o, evalOperands 1 [.rl, .rl] [.literal 3, .immediate 0x90] launch = .ok o ∧ (o.value 1).lo = 0x90 ∧
      (o.value 0).lo = 3) ∧ launch.mode = 0 ∧ launch.sched = [] ∧ busy launch = false ∧
      (let b := launch.setVp { launch.vp with queue := [loadEntry] }
       busy b = true ∧ b.mode = 0 ∧ b.cfg.vpPresent = true ∧
         ∃ o, evalOperands 1 [.rl, .rl] [.literal 2, .immediate 0x90] b = .ok o ∧ (o.value 1).lo = 0x90 ∧
           (o.value 0).lo = 2) ∧
      busy suspendedLoad = false ∧ suspendedLoad.vp.queue = [suspendedEntry] ∧
      suspendedEntry.op = .load .long .strided ∧
      ∃ o, evalOperands 1 [.rl, .rl] [.literal 2, .immediate 0x90] suspendedLoad = .ok o ∧ (o.value 1).lo = 0x90 ∧
        (o.value 0).lo = 2 :=
  ⟨⟨_, rfl, by decide, by decide⟩, by decide, rfl, by decide,
    ⟨by decide, by decide, rfl, _, rfl, by decide, by decide⟩, by decide, rfl, rfl, _, rfl, by decide, by decide⟩

/-- With prompt execution and without. -/
theorem witness_MtprVpsrClearsAex :
    ∀ s ∈ [launch, delayed], (∃ o, evalOperands 1 [.rl, .rl] [.immediate 0x81, .immediate 0x90] s = .ok o ∧
      (o.value 1).lo = 0x90 ∧ (o.value 0).lo = 0x81) ∧ s.mode = 0 ∧ s.cfg.vpPresent = true ∧
      s.vp.flushOnEnable = false := by
  intro s hs
  rcases List.mem_cons.mp hs with rfl | hs
  · exact ⟨⟨_, rfl, by decide, by decide⟩, by decide, rfl, rfl⟩
  · rcases List.mem_singleton.mp hs with rfl
    exact ⟨⟨_, rfl, by decide, by decide⟩, by decide, rfl, rfl⟩

/-- VPSR to a register, VAER to memory. -/
theorem witness_MfprStatus :
    (∃ o, evalOperands 1 [.rl, .wl] [.immediate 0x90, .reg 0] launch = .ok o ∧ (o.value 0).lo = 0x90 ∧
      o.dest 1 = .register 0) ∧
      (∃ o pas, evalOperands 1 [.rl, .wl] [.immediate 0x91, .mem (.absolute 0x3000)] launch = .ok o ∧
        (o.value 0).lo = 0x91 ∧ o.dest 1 = .memory pas ∧ pas.Nodup) ∧
      launch.mode = 0 ∧ launch.cfg.vpPresent = true ∧ launch.vp.hwOp = false ∧ launch.vp.hwMem = false ∧ launch.vp.vaerOld = 0 ∧
      launch.vp.aexLate = false ∧ launch.vp.storing = [] :=
  ⟨⟨_, rfl, by decide, rfl⟩, ⟨_, [0x3000, 0x3001, 0x3002, 0x3003], rfl, by decide, rfl, by decide⟩, by decide, rfl, rfl,
    rfl, rfl, rfl, rfl⟩

/-- Bits 4, 8, 23, 26 and 30. -/
theorem witness_BadIprAccesses_reserved :
    ∀ n ∈ [4, 8, 23, 26, 30], ∃ o, evalOperands 1 [.rl, .rl] [.immediate (1#64 <<< n), .immediate 0x90] launch = .ok o ∧
      (o.value 1).lo = 0x90 ∧ (o.value 0).lo.getLsbD n = true := by
  intro n hn
  obtain ⟨o, ho, h0, h1⟩ := mtpr_operands (1#64 <<< n) 0x90 launch
  refine ⟨o, ho, by rw [h1]; decide, ?_⟩
  rw [h0]
  clear ho h0 h1
  revert n
  decide

/-- MTPR: the register numbers at the ends of each clause. -/
theorem witness_BadIprAccesses_write :
    launch.cfg.badIprAccess = .rsvdOperandFault ∧ launch.mode = 0 ∧
      (∀ n ∈ ([0x91, 0x92, 0x95, 0x9F] : List Quad), ∃ o,
        evalOperands 1 [.rl, .rl] [.literal 0, .immediate n] launch = .ok o ∧ (o.value 1).lo = n.lo) ∧
      (∃ o, evalOperands 1 [.rl, .rl] [.literal 1, .immediate 0x93] launch = .ok o ∧ (o.value 1).lo = 0x93 ∧
        (o.value 0).lo ≠ 0) ∧ launch.cfg.vpPresent = true ∧ launch.cfg.vectorTb = .own :=
  ⟨rfl, by decide, fun n _ => ⟨_, rfl, rfl⟩, ⟨_, rfl, by decide, by decide⟩, rfl, rfl⟩

/-- MTPR to VSAR with the least and the greatest of the three low bits. -/
theorem witness_BadIprAccesses_vsar :
    (∃ o, evalOperands 1 [.rl, .rl] [.literal 1, .immediate 0x94] launch = .ok o ∧
      (o.value 1).lo = 0x94 ∧ (o.value 0).lo.toNat % 8 ≠ 0) ∧
    ∃ o, evalOperands 1 [.rl, .rl] [.literal 7, .immediate 0x94] launch = .ok o ∧
      (o.value 1).lo = 0x94 ∧ (o.value 0).lo.toNat % 8 ≠ 0 :=
  ⟨⟨_, rfl, by decide, by decide⟩, ⟨_, rfl, by decide, by decide⟩⟩

/-- MTPR to VPSR with the ends of the settings that are not listed. -/
theorem witness_BadIprAccesses_vpsr :
    (∃ o, evalOperands 1 [.rl, .rl] [.literal 5, .immediate 0x90] launch = .ok o ∧
      (o.value 1).lo = 0x90 ∧ (o.value 0).lo.toNat % 16 ∈ [5, 6, 7, 10, 11, 12, 13, 14, 15]) ∧
    ∃ o, evalOperands 1 [.rl, .rl] [.literal 15, .immediate 0x90] launch = .ok o ∧
      (o.value 1).lo = 0x90 ∧ (o.value 0).lo.toNat % 16 ∈ [5, 6, 7, 10, 11, 12, 13, 14, 15] :=
  ⟨⟨_, rfl, by decide, by decide⟩, ⟨_, rfl, by decide, by decide⟩⟩

/-- MFPR, under the synchronous method. -/
theorem witness_BadIprAccesses_read :
    (∀ n ∈ ([0x93, 0x95, 0x9F, 0x94] : List Quad), ∃ o,
      evalOperands 1 [.rl, .wl] [.immediate n, .reg 0] readySync = .ok o ∧ (o.value 0).lo = n.lo) ∧
      readySync.cfg.isAsync = false ∧ readySync.cfg.badIprAccess = .rsvdOperandFault ∧ readySync.mode = 0 :=
  ⟨fun n _ => ⟨_, rfl, rfl⟩, rfl, rfl, by decide⟩

/-- User mode. -/
def user : State := { launch with cpu := { launch.cpu with psl := 0x03C00000 } }

theorem witness_IprPrivilege :
    user.mode ≠ 0 ∧ (∃ o, evalOperands 1 [.rl, .rl] [.literal 1, .immediate 0x90] user = .ok o) ∧
      ∃ o, evalOperands 1 [.rl, .wl] [.immediate 0x90, .reg 0] user = .ok o :=
  ⟨by decide, ⟨_, rfl⟩, ⟨_, rfl⟩⟩

theorem witness_TranslationBufferInvalidate :
    launch.mode = 0 ∧ launch.cfg.vpPresent = true ∧ launch.cfg.vectorTb = .own ∧ launch.cfg.hasVtbia = true ∧
      launch.cfg.iprs = {} ∧ absent.cfg.vpPresent = false ∧ absent.mode = 0 ∧
      (∃ o, evalOperands 1 [.rl, .rl] [.literal 0, .immediate 0x93] launch = .ok o ∧ (o.value 1).lo = 0x93 ∧
        (o.value 0).lo = 0) ∧
      (∃ o, evalOperands 1 [.rl, .rl] [.literal 0, .immediate 0x93] absent = .ok o ∧ (o.value 1).lo = 0x93) ∧
      (∃ o, evalOperands 1 [.rl, .rl] [.literal 0, .literal 0x39] launch = .ok o ∧ (o.value 1).lo = 0x39) ∧
      ∃ o, evalOperands 1 [.rl, .rl] [.immediate 0x1000, .literal 0x3A] launch = .ok o ∧ (o.value 1).lo = 0x3A :=
  ⟨by decide, rfl, rfl, rfl, rfl, rfl, by decide, ⟨_, rfl, by decide, by decide⟩, ⟨_, rfl, by decide⟩,
    ⟨_, rfl, by decide⟩, ⟨_, rfl, by decide⟩⟩

theorem witness_StateAddress :
    launch.mode = 0 ∧ launch.cfg.vpPresent = true ∧ launch.cfg.isAsync = true ∧
      (∃ o, evalOperands 1 [.rl, .rl] [.immediate 0xFFFFFFF8, .immediate 0x94] launch = .ok o ∧
        (o.value 1).lo = 0x94 ∧ (o.value 0).lo.toNat % 8 = 0) ∧
      ∃ o, evalOperands 1 [.rl, .wl] [.immediate 0x94, .reg 13] launch = .ok o ∧ (o.value 0).lo = 0x94 ∧
        o.dest 1 = .register 13 :=
  ⟨by decide, rfl, rfl, ⟨_, rfl, by decide, by decide⟩, ⟨_, rfl, by decide, rfl⟩⟩

theorem witness_MemoryManagementCopies :
    launch.mode = 0 ∧ launch.cfg.iprs = {} ∧
      ∀ n ∈ ([8, 9, 10, 11, 12, 13] : List Quad), ∃ o,
        evalOperands 1 [.rl, .rl] [.immediate 0x1000, .immediate n] launch = .ok o ∧ (o.value 1).lo = n.lo :=
  ⟨by decide, rfl, fun _ _ => ⟨_, rfl, rfl⟩⟩

theorem witness_ActivityCheck :
    (∃ o, evalOperands 1 [.rl, .wl] [.immediate 0x92, .reg 0] launch = .ok o ∧ (o.value 0).lo = 0x92) ∧
      launch.mode = 0 ∧ launch.cfg.vpPresent = true ∧ launch.vp.queue = [] ∧ launch.vp.hwMem = false ∧
      launch.mem.wf = true :=
  ⟨⟨_, rfl, by decide⟩, by decide, rfl, rfl, rfl, rfl⟩

/-- VSAR at 3000 hex, and a load is suspended. -/
def storingState : State := suspendedLoad.setVp { suspendedLoad.vp with vsar := 0x3000 }

/-- The eight bytes there. -/
def stateBytes : List Nat := [0x3000, 0x3001, 0x3002, 0x3003, 0x3004, 0x3005, 0x3006, 0x3007]

/-- A suspended load has been stored there, as eight bytes of zero. -/
def reloading : State :=
  { launch with
    vp := { launch.vp with vsar := 0x3000, vpsr := 0 }
    saved := [⟨List.replicate 8 0, [suspendedEntry], none, true, false⟩] }

theorem witness_StateSaveAndReload :
    (∀ s ∈ [storingState, reloading], s.mode = 0 ∧ s.cfg.vpPresent = true ∧ s.cfg.isAsync = true ∧ s.sched = [] ∧
      s.vp.vbuf = [] ∧ ∀ v ∈ ([4, 8] : List Quad), ∃ o, evalOperands 1 [.rl, .rl] [.immediate v, .immediate 0x90] s = .ok o ∧
        (o.value 1).lo = 0x90 ∧ (o.value 0).lo = v.lo) ∧
      stateArea storingState true storingState.cfg.vsarStateLen = .ok stateBytes ∧ stateBytes.Nodup ∧
      storingState.mem.wf = true ∧ stateArea reloading false reloading.cfg.vsarStateLen = .ok stateBytes ∧
      stateBytes.map reloading.mem.read = List.replicate 8 0 ∧ reloading.vp.queue = [] ∧ reloading.vp.vpsr = 0 ∧
      Waits reloading.vp [suspendedEntry] ∧ storingState.vp.queue[0]? = some suspendedEntry ∧
      (viewAt storingState 0 suspendedEntry).hasElem 2 63 = true ∧
      (viewAt storingState 0 suspendedEntry).ready.vmr.getLsbD 63 = true := by
  refine ⟨fun s hs => ?_, by decide, by decide, by decide, by decide, by decide, rfl, rfl,
    .inr ⟨_, [], rfl, 1, by decide, by decide⟩, rfl, by decide, by decide⟩
  rcases List.mem_cons.mp hs with rfl | hs
  · exact ⟨by decide, rfl, rfl, rfl, rfl, fun _ _ => ⟨_, rfl, rfl, rfl⟩⟩
  · rcases List.mem_singleton.mp hs with rfl
    exact ⟨by decide, rfl, rfl, rfl, rfl, fun _ _ => ⟨_, rfl, rfl, rfl⟩⟩

/-- Both kinds of hardware error have been met. -/
def broken : State := launch.setVp { launch.vp with hwMem := true, hwOp := true, halted := true, flushOnEnable := true }

/-- The same where it is reported by a machine check; the kernel stack is at 800 hex. -/
def brokenCheck : State :=
  { broken with
    cfg := { broken.cfg with hwErrorReport := .machineCheck }, cpu := { broken.cpu with sps := broken.cpu.sps.set 0 0x800 } }

theorem witness_HardwareErrors :
    (∀ s ∈ [broken, brokenCheck], s.mode = 0 ∧ s.cfg.vpPresent = true ∧ s.vp.queue = [] ∧
      s.vp.hwMem = true ∧ s.vp.hwOp = true ∧ ∀ n ∈ ([0x90, 0x92] : List Quad), ∃ o,
        evalOperands 1 [.rl, .wl] [.immediate n, .reg 0] s = .ok o ∧ (o.value 0).lo = n.lo ∧ o.dest 1 = .register 0) ∧
      broken.cfg.hwErrorReport = .imp ∧ broken.cfg.implementsImp = true ∧
      brokenCheck.cfg.hwErrorReport = .machineCheck ∧ (∃ t, takeException .machineCheck brokenCheck = .next t) ∧
      broken.vp.flushOnEnable = true ∧
      ∃ o, evalOperands 1 [.rl, .rl] [.literal 1, .immediate 0x90] broken = .ok o ∧ (o.value 1).lo = 0x90 ∧
        (o.value 0).lo = 1 := by
  refine ⟨fun s hs => ?_, rfl, rfl, rfl, next_of_goesOn (by decide), rfl, _, rfl, by decide, by decide⟩
  rcases List.mem_cons.mp hs with rfl | hs
  · exact ⟨by decide, rfl, rfl, rfl, rfl, fun _ _ => ⟨_, rfl, rfl, rfl⟩⟩
  · rcases List.mem_singleton.mp hs with rfl
    exact ⟨by decide, rfl, rfl, rfl, rfl, fun _ _ => ⟨_, rfl, rfl, rfl⟩⟩

/-- An error of an addition has stopped a load, and one of a memory instruction an addition. -/
theorem witness_HardwareErrors_stopped :
    (∀ e ∈ [{ suspendedEntry with fault := none }, addEntry],
      e.fault = none ∧ e.copy = none ∧ e.len.toNat ≤ 64 ∧
        ∃ k : Fin 64, e.isActive broken.vp.vmr k = true ∧ e.done.getLsbD k = false ∧ e.left.getLsbD k = false) ∧
      suspendedEntry.op.isMemory = true ∧ addEntry.op.isMemory = false ∧
      (let s := broken.setVp { broken.vp with queue := [addEntry], hwOp := false }
       s.mode = 0 ∧ s.cfg.vpPresent = true ∧ s.vp.halted = true ∧ s.vp.hwMem = true ∧
         ∃ o, evalOperands 1 [.rl, .wl] [.immediate 0x90, .reg 0] s = .ok o ∧ (o.value 0).lo = 0x90) ∧
      (let s := broken.setVp { broken.vp with queue := [{ suspendedEntry with fault := none }], hwMem := false }
       s.mode = 0 ∧ s.cfg.vpPresent = true ∧ s.vp.halted = true ∧ s.vp.hwOp = true ∧
         ∃ o, evalOperands 1 [.rl, .wl] [.immediate 0x92, .reg 0] s = .ok o ∧ (o.value 0).lo = 0x92) := by
  refine ⟨fun e he => ?_, rfl, rfl, ⟨by decide, rfl, rfl, rfl, _, rfl, by decide⟩,
    ⟨by decide, rfl, rfl, rfl, _, rfl, by decide⟩⟩
  rcases List.mem_cons.mp he with rfl | he
  · exact ⟨rfl, rfl, by decide, 1, by decide, by decide, by decide⟩
  · rcases List.mem_singleton.mp he with rfl
    exact ⟨rfl, rfl, by decide, 0, by decide, by decide, by decide⟩

/-- An addition is pending where the flush is to come. -/
theorem witness_HardwareErrors_flush :
    (let s := broken.setVp { broken.vp with queue := [addEntry] }
     s.mode = 0 ∧ s.cfg.vpPresent = true ∧ s.vp.flushOnEnable = true ∧ s.vp.queue = [addEntry] ∧
       ∃ o, evalOperands 1 [.rl, .rl] [.literal 1, .immediate 0x90] s = .ok o ∧ (o.value 1).lo = 0x90 ∧
         (o.value 0).lo = 1) ∧
      addEntry.op.usesLength = true ∧ addEntry.op.isMemory = false ∧ addEntry.copy = none ∧ addEntry.done = 0 ∧
      addEntry.count = none ∧ addEntry.isActive broken.vp.vmr 0 = true :=
  ⟨⟨by decide, rfl, rfl, rfl, _, rfl, by decide, by decide⟩, rfl, rfl, rfl, rfl, rfl, by decide⟩

/-! ### Floating arithmetic -/

/-- One third in F (T6.20). -/
theorem witness_RoundingToNearest :
    0 < (Ratio.mk 1 3).den ∧ FloatFmt.encode .f (Ratio.mk 1 3) false = .ok 0xAAAB3FAA ∧ (0xAAAB3FAA : Quad) ≠ 0 := by
  decide

/-- A quotient; and in F a value that overflows, one that underflows and one that does neither. -/
theorem witness_ExactResultsAndRange :
    0 < (Ratio.mk 1 3).den ∧ (Ratio.mk 1 3).num ≠ 0 ∧ 0 < (Ratio.mk (-7) 2).den ∧
      FloatFmt.encode .f ⟨2 ^ 200, 1⟩ true = .error AexSet.overflow ∧
      FloatFmt.encode .f ⟨1, 2 ^ 200⟩ true = .error AexSet.underflow ∧
      FloatFmt.encode .f ⟨1, 2 ^ 200⟩ false = .ok 0 ∧
      (∃ q, FloatFmt.encode .f ⟨1, 3⟩ true = .ok q) := by
  refine ⟨by decide, by decide, by decide, by decide, by decide, by decide, _, rfl⟩

theorem witness_EncodingIsExact : FloatFmt.expField .f 0x00000080 ≠ 0 := by decide

end Sys2Proof.Tests
end

section
/-! What every part of a step keeps: the implementation's parameters, the page tables, and the free values already given. -/

namespace Sys2Proof.Machine

/-- `t` has the parameters and page tables of `s`, and no free value that `s` has used is to come in it. -/
def KeepsConfiguration (s t : State) : Prop := t.cfg = s.cfg ∧ t.pageMap = s.pageMap ∧ s.draws ≤ t.draws

theorem KeepsConfiguration.refl (s : State) : KeepsConfiguration s s := ⟨rfl, rfl, le_rfl⟩

theorem KeepsConfiguration.trans {s t u : State} (h : KeepsConfiguration s t) (k : KeepsConfiguration t u) :
    KeepsConfiguration s u :=
  ⟨k.1.trans h.1, k.2.1.trans h.2.1, h.2.2.trans k.2.2⟩

/-- The form in which the frame lemmas of the model say what a state is. -/
theorem KeepsConfiguration.of_eq {s t u : State} (h : t = u) (hu : KeepsConfiguration s u) : KeepsConfiguration s t := h ▸ hu

theorem KeepsConfiguration.ite {s t u : State} (c : Prop) [Decidable c] (ht : KeepsConfiguration s t)
    (hu : KeepsConfiguration s u) : KeepsConfiguration s (if c then t else u) := by
  split <;> assumption

theorem KeepsConfiguration.foldl {α : Type} {f : State → α → State} (hf : ∀ s x, KeepsConfiguration s (f s x))
    (l : List α) (s : State) : KeepsConfiguration s (l.foldl f s) := by
  induction l generalizing s with
  | nil => exact .refl s
  | cons x l ih => exact (hf s x).trans (ih (f s x))

/-- Every next state that `o` may be keeps the configuration of `s`. -/
def AnswersKeep (s : State) (o : Out) : Prop := ∀ t, o = .next t → KeepsConfiguration s t

theorem KeepsConfiguration.answersKeep {s t : State} (h : KeepsConfiguration s t) : AnswersKeep s (.next t) := by
  rintro _ ⟨⟩
  exact h

theorem answersKeep_next (s : State) : AnswersKeep s (.next s) := (KeepsConfiguration.refl s).answersKeep

theorem answersKeep_refused (s : State) (r : Refusal) : AnswersKeep s (.refused r) := by
  rintro _ ⟨⟩

theorem AnswersKeep.ite {s : State} {o o' : Out} (c : Prop) [Decidable c] (h : AnswersKeep s o) (h' : AnswersKeep s o') :
    AnswersKeep s (if c then o else o') := by
  split <;> assumption

/-- What begins later may be said of what began earlier. -/
theorem AnswersKeep.after {s t : State} {o : Out} (ho : AnswersKeep t o) (h : KeepsConfiguration s t) : AnswersKeep s o :=
  fun u hu => h.trans (ho u hu)

theorem AnswersKeep.andThen {s : State} {o : Out} {f : State → Out} (ho : AnswersKeep s o) (hf : ∀ u, AnswersKeep u (f u)) :
    AnswersKeep s (andThen o f) := by
  intro t ht
  obtain ⟨u, hu, hut⟩ := (andThen_eq_next _ _ _).mp ht
  exact (ho u hu).trans (hf u t hut)

/-! ### Updates of the state -/

theorem setVp_keepsConfiguration (s : State) (p : Vp) : KeepsConfiguration s (s.setVp p) := .refl s

theorem setPc_keepsConfiguration (s : State) (pc : Long) : KeepsConfiguration s (s.setPc pc) := .refl s

theorem spend_keepsConfiguration (s : State) : KeepsConfiguration s s.spend := ⟨rfl, rfl, Nat.le_add_right ..⟩

theorem undoOperands_keepsConfiguration (s t : State) : KeepsConfiguration t (undoOperands s t) := .refl t

theorem prompt_keepsConfiguration (s : State) : KeepsConfiguration s s.prompt := .ite _ (.refl s) (.refl s)

theorem completeWrite_keepsConfiguration (u : List Host.Cell) (s : State) : KeepsConfiguration s (s.completeWrite u) :=
  .of_eq (completeWrite_frame u s) (.refl s)

theorem settleRaces_keepsConfiguration (s : State) : KeepsConfiguration s s.settleRaces :=
  .of_eq (State.settleRaces_frame s) (.refl s)

theorem writeDest_keepsConfiguration (d : Operand) (v : Long) (s : State) : KeepsConfiguration s (writeDest d v s) :=
  .of_eq (writeDest_keeps d v s) (.refl s)

theorem suspend_keepsConfiguration (k : Nat) (w : View) (e : QEntry) (f : MmFault) (s : State) :
    KeepsConfiguration s (suspend k w e f s) :=
  (spend_keepsConfiguration s).trans (setVp_keepsConfiguration _ _)

theorem OnlyMoves.keepsConfiguration {s t : State} (h : OnlyMoves s t) : KeepsConfiguration s t := .of_eq h (.refl s)

theorem retrySuspended_keepsConfiguration (s : State) : KeepsConfiguration s (retrySuspended s) :=
  .ite _ (setVp_keepsConfiguration _ _) (.refl s)

/-! ### Exceptions -/

theorem takeException_answersKeep (e : Exc) (s : State) : AnswersKeep s (takeException e s) :=
  fun _ ht => .of_eq (takeException_keeps ht).1 (.refl s)

theorem takeDisabled_answersKeep (s : State) : AnswersKeep s (takeDisabled s) := takeException_answersKeep .disabled _

theorem takePending_answersKeep (s : State) : AnswersKeep s (takePending s) := takeException_answersKeep _ _

theorem reportHardware_answersKeep (s : State) : AnswersKeep s (reportHardware s) := by
  unfold reportHardware
  split
  · exact (takeException_answersKeep _ _).after (setVp_keepsConfiguration _ _)
  · exact (setVp_keepsConfiguration _ _).answersKeep

theorem takeBlocked_answersKeep (orig s : State) : AnswersKeep s (takeBlocked orig s) := by
  unfold takeBlocked
  refine AnswersKeep.after ?_ (undoOperands_keepsConfiguration orig s)
  simp only
  split
  · exact takePending_answersKeep _
  · split
    · exact (takeException_answersKeep _ _).after (setVp_keepsConfiguration _ _)
    · exact (takeDisabled_answersKeep _).after (.refl _)

theorem turnedAway_answersKeep {s : State} {out : Out} (h : turnedAway s = some out) : AnswersKeep s out := by
  rintro t rfl
  obtain ⟨x, u, ht, hu⟩ := turnedAway_cases h
  exact .trans (.of_eq hu (.refl s)) (takeException_answersKeep x u t ht)

theorem execRei_answersKeep (s : State) : AnswersKeep s (execRei s) := by
  rcases execRei_cases s with ⟨f, h⟩ | ⟨_, -, h⟩ <;> rw [h]
  · exact takeException_answersKeep _ s
  · exact KeepsConfiguration.answersKeep (.refl s)

/-! ### Operands -/

theorem evalBase_draws {k size : Nat} {b : Base} {c : Long} {s : State} {g : Gathered Long}
    (h : evalBase k size b c s = .ok g) : g.state.draws = s.draws := by
  cases b <;> simp only [evalBase] at h
  case autoincDef => rw [deferred_frame _ _ _ _ h]; rfl
  case disp8Def | disp16Def | disp32Def => rw [deferred_frame _ _ _ _ h]
  all_goals (cases h; rfl)

theorem registerValue_draws_le (size : Nat) (n : RegNo) (c : Long) (s : State) :
    s.draws ≤ (registerValue size n c s).state.draws := by
  unfold registerValue
  simp only
  split
  · split
    · exact Nat.le_add_right ..
    · exact le_rfl
  · exact le_rfl

theorem evalSpec_draws_le {k : Nat} {acc : Access} {m : List RegNo} {sp : Spec} {c : Long} {s : State} {g : Gathered Operand}
    (h : evalSpec k acc m sp c s = .ok g) : s.draws ≤ g.state.draws := by
  cases sp with
  | literal v => cases acc <;> cases h <;> exact le_rfl
  | immediate v => cases acc <;> cases h <;> exact le_rfl
  | reg n =>
    cases acc <;> simp only [evalSpec] at h
    case ab => cases h
    case wl => cases h; exact le_rfl
    all_goals
      split at h <;> cases h
      · exact Nat.le_add_right ..
      · exact registerValue_draws_le ..
  | mem b =>
    obtain ⟨g', hg, hr⟩ := Eval.bind_eq_ok _ _ _ h
    rw [evalMemory_frame _ _ _ _ hr, evalBase_draws hg]
  | indexed x b =>
    obtain ⟨g', hg, hr⟩ := Eval.bind_eq_ok _ _ _ h
    rw [evalMemory_frame _ _ _ _ hr, evalBase_draws hg]

theorem evalSpecs_draws_le {m : List RegNo} {k : Nat} {accs : List Access} {sps : List Spec} {c : Long} {s : State}
    {g : Gathered (List Operand × Long)} (h : evalSpecs m k accs sps c s = .ok g) : s.draws ≤ g.state.draws := by
  induction accs generalizing k sps c s g with
  | nil => cases sps <;> (cases h; exact le_rfl)
  | cons a as ih =>
    cases sps with
    | nil => cases h; exact le_rfl
    | cons sp sps =>
      obtain ⟨x, hx, hr⟩ := Eval.bind_eq_ok _ _ _ h
      obtain ⟨y, hy, hz⟩ := Eval.bind_eq_ok _ _ _ hr
      cases hz
      exact (evalSpec_draws_le hx).trans (ih (g := y) hy)

/-- Evaluating operands uses up free values only. -/
theorem evalOperands_keepsConfiguration {header : Nat} {accs : List Access} {sps : List Spec} {s : State} {o : Operands}
    (h : evalOperands header accs sps s = .ok o) : KeepsConfiguration s o.state := by
  obtain ⟨hcfg, -, -, hpageMap, -⟩ := (evalOperands_frame _ _ _ _ _ h).fields
  obtain ⟨g, hg, hr⟩ := Eval.bind_eq_ok _ _ _ h
  cases hr
  exact ⟨hcfg, hpageMap, evalSpecs_draws_le hg⟩

theorem withOperands_answersKeep (header : Nat) (accs : List Access) (sps : List Spec) (s : State) {f : Operands → Out}
    (hf : ∀ o, KeepsConfiguration s o.state → AnswersKeep s (f o)) : AnswersKeep s (withOperands header accs sps s f) := by
  unfold withOperands
  split
  · exact takeException_answersKeep _ s
  · exact answersKeep_refused _ _
  · rename_i o ho
    exact hf o (evalOperands_keepsConfiguration ho)

theorem withVectorOperands_answersKeep (accs : List Access) (sps : List Spec) (s : State) {f : Operands → Out}
    (hf : ∀ o, KeepsConfiguration s o.state → AnswersKeep s (f o)) : AnswersKeep s (withVectorOperands accs sps s f) := by
  intro t ht
  rcases withVectorOperands_cases ht with ⟨x, hx⟩ | ⟨o, ho, hft⟩
  · exact takeException_answersKeep x s t hx
  · exact hf o (evalOperands_keepsConfiguration ho) t hft

/-! ### The vector processor executes -/

theorem runElems_answersKeep (k : Nat) (m : Quad) (part : Option Nat) (s : State) : AnswersKeep s (runElems k m part s) := by
  intro t ht
  rcases runElems_cases k m part s t ht with
    rfl | ⟨e, -, ⟨-, now, rfl⟩ | ⟨-, s', hs', e', -, rfl | ⟨f, rfl⟩⟩⟩
  · exact .refl t
  · exact setVp_keepsConfiguration _ _
  · exact hs'.keepsConfiguration.trans (setVp_keepsConfiguration _ _)
  · exact hs'.keepsConfiguration.trans (suspend_keepsConfiguration _ _ _ _ _)

theorem checkEntry_answersKeep (k : Nat) (s : State) : AnswersKeep s (checkEntry k s) := by
  intro t ht
  rcases checkEntry_cases k s t ht with rfl | ⟨e, -, -, s', hs', ⟨l, x, rfl⟩ | ⟨f, rfl⟩⟩
  · exact .refl t
  · exact hs'.keepsConfiguration.trans (setVp_keepsConfiguration _ _)
  · exact hs'.keepsConfiguration.trans (suspend_keepsConfiguration _ _ _ _ _)

theorem happen_answersKeep (ev : Event) (s : State) : AnswersKeep s (happen ev s) := by
  intro t ht
  rcases happen_cases ht with ⟨k, m, part, rfl | h⟩ | h | h
  · exact .refl t
  · exact runElems_answersKeep k m part (s.startTo k) t h
  · exact reportHardware_answersKeep s t h
  · exact .of_eq h (.refl s)

/-! Starting an entry, executing elements and checking references, in the form that the lemmas about waits ask for. -/

theorem startTo_keeps (s : State) (k : Nat) (u : State) (h : KeepsConfiguration s u) : KeepsConfiguration s (u.startTo k) :=
  h.trans (setVp_keepsConfiguration _ _)

theorem runElems_keeps (s : State) (k : Nat) (m : Quad) (u t : State) (h : KeepsConfiguration s u)
    (ht : runElems k m none u = .next t) : KeepsConfiguration s t :=
  h.trans (runElems_answersKeep k m none u t ht)

theorem checkEntry_keeps (s : State) (k : Nat) (u t : State) (h : KeepsConfiguration s u)
    (ht : checkEntry k u = .next t) : KeepsConfiguration s t :=
  h.trans (checkEntry_answersKeep k u t ht)

theorem drain_answersKeep (s : State) : AnswersKeep s (drain s) :=
  fun _ => drain_keeps _ (startTo_keeps s) (runElems_keeps s) (.refl s)

theorem pursue_answersKeep (stop : State → Bool) (goal : State → Goal) (s : State) : AnswersKeep s (pursue stop goal s) :=
  fun _ => pursue_keeps _ (startTo_keeps s) (runElems_keeps s) (checkEntry_keeps s) stop goal (.refl s)

theorem happenAll_answersKeep (evs : List Event) (s : State) : AnswersKeep s (happenAll evs s) :=
  fun _ => happenAll_keeps _ (fun ev _ u t hu ht => hu.trans (happen_answersKeep ev u t ht)) (.refl s)

theorem whileRetrying_answersKeep (s : State) : AnswersKeep s (whileRetrying s) :=
  fun _ => whileRetrying_keeps _ (fun _ _ hu => hu) (fun ev _ u t hu ht => hu.trans (happen_answersKeep ev u t ht)) (.refl s)

theorem makeRoom_answersKeep (s : State) : AnswersKeep s (makeRoom s) := by
  unfold makeRoom
  split
  · exact (whileRetrying_answersKeep s).andThen fun u _ => makeRoomFuel_keeps _ (startTo_keeps u) (runElems_keeps u) (.refl u)
  · exact answersKeep_next s

theorem settle_answersKeep (s : State) : AnswersKeep s (settle s) := by
  unfold settle
  split
  · exact (drain_answersKeep s).andThen fun u => (answersKeep_next u.flushVector).after (.refl u)
  · exact answersKeep_next s

theorem advance_answersKeep (s : State) : AnswersKeep s (advance s) := by
  unfold advance
  refine AnswersKeep.after ?_ (settleRaces_keepsConfiguration s)
  simp only
  split
  · refine (drain_answersKeep _).andThen fun u => ?_
    refine AnswersKeep.andThen ?_ fun v => (answersKeep_next v.seeVen).after (.refl v)
    refine AnswersKeep.after ?_ (.refl u : KeepsConfiguration u u.flushAll.clearNow)
    split
    · exact reportHardware_answersKeep _
    · exact answersKeep_next _
  · exact (happenAll_answersKeep _ _).after (.refl _)

/-! ### Issue -/

theorem readyToSend_answersKeep (s : State) : AnswersKeep s (readyToSend s) :=
  (makeRoom_answersKeep _).after (retrySuspended_keepsConfiguration s)

theorem enqueue_settle_answersKeep (e : QEntry) (next : Long) (s : State) : AnswersKeep s (settle (enqueue e next s)) :=
  (settle_answersKeep _).after (.refl s)

theorem spoil_keepsConfiguration (sz : ElemSize) (ad : Addressing) (store : Bool) (w : View) (e : QEntry)
    (oks : List (Nat × Nat)) (s : State) : KeepsConfiguration s (spoil sz ad store w e oks s) := by
  unfold spoil
  split
  · exact setVp_keepsConfiguration _ _
  · exact setVp_keepsConfiguration _ _

theorem checkAtIssue_answersKeep (sz : ElemSize) (ad : Addressing) (store : Bool) (e : QEntry) (next : Long) (orig s : State) :
    AnswersKeep s (checkAtIssue sz ad store e next orig s) := by
  refine (pursue_answersKeep _ _ s).andThen fun u => ?_
  split
  · exact takeBlocked_answersKeep orig u
  · simp only
    rcases examine_cases sz ad store (viewAll u) e u with ⟨r, h⟩ | ⟨f, -, h⟩ | ⟨-, -, h⟩ <;> rw [h]
    · exact answersKeep_refused _ _
    · refine (takeException_answersKeep _ _).after (.trans ?_ (undoOperands_keepsConfiguration orig _))
      exact (loadTb_onlyMoves u _).keepsConfiguration.trans
        ((spoil_keepsConfiguration _ _ _ _ _ _ _).trans (prompt_keepsConfiguration _))
    · exact (enqueue_settle_answersKeep _ _ _).after (loadTb_onlyMoves u _).keepsConfiguration

theorem send_answersKeep (e : QEntry) (next : Long) (orig s : State) : AnswersKeep s (send e next orig s) := by
  unfold send
  split
  · exact takeBlocked_answersKeep orig s
  · refine AnswersKeep.after ?_ (spend_keepsConfiguration s)
    simp only
    split
    · exact checkAtIssue_answersKeep _ _ _ _ _ _ _
    · exact enqueue_settle_answersKeep _ _ _

theorem issueOp_answersKeep (op : VOp) (sps : List Spec) (o : Operands) (s : State) :
    AnswersKeep o.state (issueOp op sps o s) := by
  intro t ht
  obtain ⟨-, u, hu, hut⟩ := issueOp_cases ht
  exact (readyToSend_answersKeep o.state u hu).trans (send_answersKeep _ _ s u t hut)

theorem issue_answersKeep (op : VOp) (sps : List Spec) (s : State) : AnswersKeep s (issue op sps s) := by
  refine withVectorOperands_answersKeep _ _ s fun o ho => ?_
  split
  · rename_i h
    exact turnedAway_answersKeep h
  · exact (issueOp_answersKeep op sps o s).after ho

theorem issueByRegnum_answersKeep (accs : List Access) (sel : Word → Option VOp) (sps : List Spec) (s : State) :
    AnswersKeep s (issueByRegnum accs sel sps s) := by
  refine withVectorOperands_answersKeep _ _ s fun o ho => ?_
  split
  · rename_i h
    exact turnedAway_answersKeep h
  · split
    · exact answersKeep_refused _ _
    · exact (issueOp_answersKeep _ sps o s).after ho

theorem idleAtFault_answersKeep (fn : MfvpFn) (may : Quad) (s : State) : AnswersKeep s (idleAtFault fn may s) := by
  unfold idleAtFault
  split
  · exact answersKeep_next s
  all_goals
    split
    · exact (drain_answersKeep _).after (spend_keepsConfiguration s)
    · exact answersKeep_next s

theorem finishMfvp_answersKeep (fn : MfvpFn) (o : Operands) (orig s : State) : AnswersKeep s (finishMfvp fn o orig s) := by
  refine (idleAtFault_answersKeep fn _ s).andThen fun u => ?_
  have hspend := spend_keepsConfiguration u
  split
  · exact (takeDisabled_answersKeep _).after hspend
  · split
    · exact (takePending_answersKeep _).after hspend
    · split
      · exact (takeBlocked_answersKeep orig _).after hspend
      · refine KeepsConfiguration.answersKeep (.trans ?_ (setPc_keepsConfiguration _ _))
        refine .trans (.trans ?_ (spend_keepsConfiguration _)) (writeDest_keepsConfiguration _ _ _)
        split
        · exact .refl u
        · exact prompt_keepsConfiguration u

theorem issueMfvp_answersKeep (sel : Word → Option MfvpFn) (sps : List Spec) (s : State) :
    AnswersKeep s (issueMfvp sel sps s) := by
  refine withVectorOperands_answersKeep _ _ s fun o ho => ?_
  split
  · rename_i h
    exact turnedAway_answersKeep h
  · split
    · exact answersKeep_refused _ _
    · refine AnswersKeep.after ((readyToSend_answersKeep o.state).andThen fun u => ?_) ho
      split
      · exact takeBlocked_answersKeep s u
      · exact (whileRetrying_answersKeep u).andThen fun v =>
          (pursue_answersKeep _ _ v).andThen fun x => finishMfvp_answersKeep _ o s x

theorem exec_answersKeep (i : Instr) (s : State) : AnswersKeep s (exec i s) := by
  rcases exec_cases i s with ⟨op, sps, h⟩ | ⟨accs, sel, sps, h⟩ | ⟨sel, sps, h⟩ <;> rw [h]
  · exact issue_answersKeep op sps s
  · exact issueByRegnum_answersKeep accs sel sps s
  · exact issueMfvp_answersKeep sel sps s

theorem execIvo_answersKeep (accs : List Access) (sps : List Spec) (s : State) : AnswersKeep s (execIvo accs sps s) := by
  refine withVectorOperands_answersKeep _ _ s fun o ho => ?_
  split
  · rename_i h
    exact turnedAway_answersKeep h
  · refine AnswersKeep.after ((readyToSend_answersKeep o.state).andThen fun u => ?_) ho
    split
    · exact takeBlocked_answersKeep s u
    · exact ((setVp_keepsConfiguration u _).trans (setPc_keepsConfiguration _ _)).answersKeep

/-! ### The processor registers -/

theorem badAccess_answersKeep (s : State) : AnswersKeep s (badAccess s) := by
  unfold badAccess
  split
  · exact takeException_answersKeep _ s
  · exact answersKeep_refused _ _

theorem startClear_keepsConfiguration (s : State) : KeepsConfiguration s (startClear s) := .refl s

theorem clearMf_keepsConfiguration (s : State) : KeepsConfiguration s (clearMf s) :=
  .ite _ (setVp_keepsConfiguration s _) (.refl s)

theorem clearBits_keepsConfiguration (v : Long) (s : State) : KeepsConfiguration s (clearBits v s) := by
  unfold clearBits
  extract_lets s₁ cleared s₂ s₃ s₄
  have h₁ : KeepsConfiguration s s₁ := .ite _ (clearMf_keepsConfiguration s) (.refl s)
  have h₂ : KeepsConfiguration s₁ s₂ := .ite _ (setVp_keepsConfiguration s₁ _) (.refl s₁)
  have h₃ : KeepsConfiguration s₂ s₃ := .ite _ (setVp_keepsConfiguration s₂ _) (.refl s₂)
  have h₄ : KeepsConfiguration s₃ s₄ := .ite _ (setVp_keepsConfiguration s₃ _) (.refl s₃)
  exact h₁.trans <| h₂.trans <| h₃.trans <| h₄.trans <| .ite _ (startClear_keepsConfiguration s₄) (.refl s₄)

theorem writeVen_keepsConfiguration (b : Bool) (s : State) : KeepsConfiguration s (writeVen b s) :=
  .trans (.ite _ (setVp_keepsConfiguration s _) (.refl s)) (setVp_keepsConfiguration _ _)

theorem storeState_answersKeep (s : State) : AnswersKeep s (storeState s) := by
  unfold storeState
  split
  · exact answersKeep_refused _ _
  · refine KeepsConfiguration.answersKeep (.trans ?_ (prompt_keepsConfiguration _))
    exact ⟨rfl, rfl, (Nat.le_add_right _ _).trans (Nat.le_add_right _ _)⟩

theorem reloadRecord_keepsConfiguration (r : SavedRecord) (s : State) : KeepsConfiguration s (reloadRecord r s) :=
  ⟨rfl, rfl, Nat.le_add_right _ _⟩

theorem reloadState_answersKeep (s : State) : AnswersKeep s (reloadState s) := by
  unfold reloadState
  split
  · exact answersKeep_refused _ _
  · split
    · exact (reloadRecord_keepsConfiguration _ s).answersKeep
    · exact ((spend_keepsConfiguration s).trans (reloadRecord_keepsConfiguration _ _)).answersKeep

theorem mtprVpsr_answersKeep (v : Long) (s : State) : AnswersKeep s (mtprVpsr v s) := by
  have hreset : AnswersKeep s (vpsrReset v s) := by
    unfold vpsrReset
    split
    · split
      · exact answersKeep_refused _ _
      · exact KeepsConfiguration.answersKeep (startClear_keepsConfiguration _)
    · exact answersKeep_next s
  have hstore (u : State) : AnswersKeep u (vpsrStore v u) := by
    unfold vpsrStore
    split
    · exact storeState_answersKeep u
    · exact answersKeep_next u
  have hreload (u : State) : AnswersKeep u (vpsrReload v u) := by
    unfold vpsrReload
    split
    · exact reloadState_answersKeep u
    · exact answersKeep_next u
  refine hreset.andThen fun u => (hstore u).andThen fun x => ?_
  refine AnswersKeep.andThen ((hreload _).after (clearBits_keepsConfiguration v x)) fun y => ?_
  exact KeepsConfiguration.answersKeep (writeVen_keepsConfiguration _ y)

theorem mtprScalar_answersKeep (n v : Long) (s : State) : AnswersKeep s (mtprScalar n v s) := by
  have hregs (f : MmRegs → MmRegs) : AnswersKeep s (.next (setMmRegs f s)) := KeepsConfiguration.answersKeep (.refl s)
  have hvp (p : Vp) : AnswersKeep s (.next (s.setVp p)) := (setVp_keepsConfiguration s p).answersKeep
  have hcpu (c : Scalar) : AnswersKeep s (.next { s with cpu := c }) := KeepsConfiguration.answersKeep (.refl s)
  exact .ite _ (hregs _) <| .ite _ (hregs _) <| .ite _ (hregs _) <| .ite _ (hregs _) <| .ite _ (hregs _) <|
    .ite _ (hregs _) <| .ite _ (hregs _) <| .ite _ (hcpu _) <| .ite _ (.ite _ (answersKeep_refused s _) (hcpu _)) <|
    .ite _ (hvp _) <| .ite _ (hvp _) <| answersKeep_refused s _

/-- An MTPR goes on from the state `t` after the operands, or takes its exception on `s`. -/
theorem mtprWrite_answersKeep (n v : Long) {r s t : State} (hs : KeepsConfiguration r s) (ht : KeepsConfiguration r t) :
    AnswersKeep r (mtprWrite n v s t) := by
  have hbad := (badAccess_answersKeep s).after hs
  have hdone := ht.answersKeep
  unfold mtprWrite
  simp only
  split
  · split_ifs
    · exact hdone
    · exact hbad
    · exact (mtprVpsr_answersKeep v t).after ht
  · exact hbad
  · exact hbad
  · split_ifs
    · exact hdone
    · exact hbad
    · exact (ht.trans (setVp_keepsConfiguration t _)).answersKeep
  · split_ifs
    · exact hbad
    · exact (ht.trans (setVp_keepsConfiguration t _)).answersKeep
  · split_ifs
    · exact hbad
    · exact (mtprScalar_answersKeep n v t).after ht

theorem execMtpr_answersKeep (src procreg : Spec) (s : State) : AnswersKeep s (execMtpr src procreg s) := by
  refine withOperands_answersKeep _ _ _ s fun o ho => ?_
  split
  · exact takeException_answersKeep _ s
  · exact mtprWrite_answersKeep _ _ (t := finishIpr _ _ _) ⟨rfl, rfl, ho.2.2⟩ ho

theorem finishMfpr_answersKeep (v : Long) (o : Operands) (s : State) : AnswersKeep s (finishMfpr v o s) :=
  KeepsConfiguration.answersKeep (writeDest_keepsConfiguration (o.dest 1) v s)

theorem withReport_answersKeep (met : Bool) (orig s : State) {f : State → Out} (hf : ∀ u, AnswersKeep u (f u)) :
    AnswersKeep s (withReport met orig s f) := by
  unfold withReport
  split
  · split
    · exact (reportHardware_answersKeep _).after (undoOperands_keepsConfiguration orig s)
    · exact (hf _).after (.refl s)
  · exact hf s

theorem completeMtpr_keepsConfiguration (s : State) : KeepsConfiguration s (completeMtpr s) :=
  .trans (.foldl (fun s u => completeWrite_keepsConfiguration u s) s.vp.storing s.clearNow) (setVp_keepsConfiguration _ _)

theorem mfprVpsr_answersKeep (o : Operands) (orig s : State) : AnswersKeep s (mfprVpsr o orig s) := by
  unfold mfprVpsr
  refine AnswersKeep.after (withReport_answersKeep _ _ _ fun u => ?_) (completeMtpr_keepsConfiguration s)
  exact (finishMfpr_answersKeep _ o _).after (.ite _ (.refl u) (.refl u))

theorem mfprVmac_answersKeep (o : Operands) (orig s : State) : AnswersKeep s (mfprVmac o orig s) := by
  refine (pursue_answersKeep _ _ s).andThen fun u => ?_
  refine AnswersKeep.after (withReport_answersKeep _ _ _ fun x => ?_) (.refl u : KeepsConfiguration u u.flushAll)
  refine (finishMfpr_answersKeep _ o _).after (.trans (t := seeImp x) ?_ (spend_keepsConfiguration _))
  exact .ite _ (.refl x) (.refl x)

theorem mfprVaer_answersKeep (o : Operands) (s : State) : AnswersKeep s (mfprVaer o s) :=
  (finishMfpr_answersKeep _ o _).after (.ite _ (.refl s) (.refl s))

/-- An MFPR goes on from the state `t` after the operands, or takes its exception on `s`. -/
theorem mfprRead_answersKeep (n : Long) (o : Operands) {r s t : State} (hs : KeepsConfiguration r s)
    (ht : KeepsConfiguration r t) : AnswersKeep r (mfprRead n o s t) := by
  have hbad := (badAccess_answersKeep s).after hs
  have hdone (v : Long) := (finishMfpr_answersKeep v o t).after ht
  unfold mfprRead
  simp only
  split
  · split
    · exact (mfprVpsr_answersKeep o s t).after ht
    · exact hdone _
  · split
    · exact (mfprVaer_answersKeep o t).after ht
    · exact hbad
  · split
    · exact (mfprVmac_answersKeep o s t).after ht
    · exact (finishMfpr_answersKeep _ o _).after (ht.trans (spend_keepsConfiguration t))
  · exact hbad
  · split
    · exact hdone _
    · exact hbad
  · split
    · exact hbad
    · split
      · exact hdone _
      · exact answersKeep_refused _ _

theorem execMfpr_answersKeep (procreg dst : Spec) (s : State) : AnswersKeep s (execMfpr procreg dst s) := by
  refine withOperands_answersKeep _ _ _ s fun o ho => ?_
  split
  · exact takeException_answersKeep _ s
  · exact mfprRead_answersKeep _ o ⟨rfl, rfl, ho.2.2⟩ ho

theorem execScalar_answersKeep (i : ScalarInstr) (s : State) : AnswersKeep s (execScalar i s) := by
  cases i with
  | mtpr src procreg => exact execMtpr_answersKeep src procreg s
  | mfpr procreg dst => exact execMfpr_answersKeep procreg dst s
  | rei => exact execRei_answersKeep s

/-! ### Fetching and the step -/

theorem decodeFailure_answersKeep (vector : Bool) (s : State) (f : Fetched) (e : DecodeError) :
    AnswersKeep s (decodeFailure vector s f e) := by
  unfold decodeFailure
  split
  · split <;> exact takeException_answersKeep _ s
  · exact takeException_answersKeep _ s
  · exact takeException_answersKeep _ s
  · exact answersKeep_refused _ _
  · split
    · exact takeException_answersKeep _ s
    · exact answersKeep_refused _ _

theorem specifierFailure_answersKeep (f : Fetched) (e : DecodeError) (s : State) :
    AnswersKeep s (specifierFailure f e s) := by
  have hfail (vector : Bool) := decodeFailure_answersKeep vector s f e
  unfold specifierFailure
  split
  · exact withVectorOperands_answersKeep _ _ s fun _ _ => hfail true
  · exact withOperands_answersKeep _ _ _ s fun _ _ => hfail false
  · exact withOperands_answersKeep _ _ _ s fun _ _ => hfail false
  · exact hfail false

theorem execIllegal_answersKeep (op : Byte) (s : State) : AnswersKeep s (execIllegal op s) := by
  unfold execIllegal
  split
  · exact takeException_answersKeep _ s
  · simp only
    split
    · split
      · exact answersKeep_refused _ _
      · exact execIvo_answersKeep _ _ s
    · split
      · exact answersKeep_refused _ _
      · exact specifierFailure_answersKeep _ _ s

theorem fetchDecode_answersKeep {s : State} {o : Out} (h : fetchDecode s = .out o) : AnswersKeep s o := by
  unfold fetchDecode at h
  simp only at h
  split at h
  · split at h
    · cases h
      exact answersKeep_refused _ _
    · split at h <;> cases h
      · exact execIllegal_answersKeep _ s
      · exact specifierFailure_answersKeep _ _ s
  · split at h
    · cases h
      exact answersKeep_refused _ _
    · split at h <;> cases h

/-- Settles O4: what comes before the instruction keeps the configuration, and so does each outcome of fetching. -/
theorem stepKeepsConfiguration : Obligations.StepKeepsConfiguration := by
  intro s t h
  obtain ⟨u, hu, ht⟩ := step_cases h
  have hsu := advance_answersKeep s u hu
  rcases ht with ⟨i, -, ht⟩ | ⟨i, -, ht⟩ | ht
  · exact hsu.trans (exec_answersKeep i u t ht)
  · exact hsu.trans (execScalar_answersKeep i u t ht)
  · exact hsu.trans (fetchDecode_answersKeep ht t rfl)

end Sys2Proof.Machine
end

section
/-! MTPR and MFPR on bad accesses: which register numbers and values are bad ones. -/

namespace Sys2Proof.Machine

/-- In kernel mode MTPR writes, once its operands are evaluated (R370). -/
theorem execMtpr_kernel {a b : Spec} {s : State} {o : Operands} (ho : evalOperands 1 [.rl, .rl] [a, b] s = .ok o)
    (hm : s.mode = 0) :
    execMtpr a b s = mtprWrite (o.value 1).lo (o.value 0).lo { s with draws := o.state.draws }
      (finishIpr (o.value 0).lo o.next o.state) := by
  simp [execMtpr, withOperands, ho, hm]

/-- In kernel mode MFPR reads, once its operands are evaluated (R370). -/
theorem execMfpr_kernel {a d : Spec} {s : State} {o : Operands} (ho : evalOperands 1 [.rl, .wl] [a, d] s = .ok o)
    (hm : s.mode = 0) :
    execMfpr a d s = mfprRead (o.value 0).lo o { s with draws := o.state.draws } o.state := by
  simp [execMfpr, withOperands, ho, hm]

section Write
variable {n v : Long} (s t : State)

theorem mtprWrite_vpsr (hn : n.toNat = 0x90) (hp : s.cfg.vpPresent = true) (hv : badVpsr v = false) :
    mtprWrite n v s t = mtprVpsr v t := by
  simp [mtprWrite, hn, hp, hv]

theorem mtprWrite_vpsr_bad (hn : n.toNat = 0x90) (hp : s.cfg.vpPresent = true) (hv : badVpsr v = true) :
    mtprWrite n v s t = badAccess s := by
  simp [mtprWrite, hn, hp, hv]

theorem mtprWrite_vaer (hn : n.toNat = 0x91) : mtprWrite n v s t = badAccess s := by
  simp [mtprWrite, hn]

theorem mtprWrite_vmac (hn : n.toNat = 0x92) : mtprWrite n v s t = badAccess s := by
  simp [mtprWrite, hn]

theorem mtprWrite_vtbia_nonzero (hn : n.toNat = 0x93) (hp : s.cfg.vpPresent = true) (ho : s.cfg.vectorTb = .own)
    (hv : v ≠ 0#32) : mtprWrite n v s t = badAccess s := by
  simp [mtprWrite, hn, hp, ho, hv]

theorem mtprWrite_vsar_bad (hn : n.toNat = 0x94) (h : v &&& 7#32 ≠ 0#32 ∨ s.cfg.isAsync = false) :
    mtprWrite n v s t = badAccess s := by
  rcases h with h | h <;> simp [mtprWrite, hn, h]

theorem mtprWrite_reserved (hn : 0x95 ≤ n.toNat ∧ n.toNat ≤ 0x9F) : mtprWrite n v s t = badAccess s := by
  unfold mtprWrite
  split
  case h_6 => exact if_pos hn
  all_goals omega

end Write

section Read
variable {n : Long} (o : Operands) (s t : State)

theorem mfprRead_vtbia (hn : n.toNat = 0x93) : mfprRead n o s t = badAccess s := by
  simp [mfprRead, hn]

theorem mfprRead_vsar_sync (hn : n.toNat = 0x94) (h : s.cfg.isAsync = false) : mfprRead n o s t = badAccess s := by
  simp [mfprRead, hn, h]

theorem mfprRead_reserved (hn : 0x95 ≤ n.toNat ∧ n.toNat ≤ 0x9F) : mfprRead n o s t = badAccess s := by
  unfold mfprRead
  split
  case h_6 => exact if_pos hn
  all_goals omega

end Read

/-- The low three bits of a longword. -/
theorem and_seven_ne_zero {v : Long} (h : v.toNat % 8 ≠ 0) : v &&& 7 ≠ 0 := by
  intro h0
  have h7 := congrArg BitVec.toNat h0
  rw [BitVec.toNat_and] at h7
  exact h ((Nat.and_two_pow_sub_one_eq_mod v.toNat 3).symm.trans h7)

/-- A setting of VPSR<3:0> that Table 10-2 does not list is bad (R376). -/
theorem badVpsr_of_setting {v : Long} (h : v.toNat % 16 ∈ [5, 6, 7, 10, 11, 12, 13, 14, 15]) : badVpsr v = true := by
  have hp : possibleSetting v = false := by
    unfold possibleSetting
    generalize v.toNat % 16 = k at h
    revert k
    decide
  rw [badVpsr, hp, Bool.not_false, Bool.or_true]

/-- A one in a reserved bit of VPSR, which are <4>, <23:8> and <30:26>, is bad (R36). -/
theorem badVpsr_of_reserved {v : Long} {k : Nat} (hk : k = 4 ∨ (8 ≤ k ∧ k ≤ 23) ∨ (26 ≤ k ∧ k ≤ 30))
    (hv : v.getLsbD k = true) : badVpsr v = true := by
  have hmask : BitVec.getLsbD (0x7CFFFF10 : Long) k = true := by
    have hk32 : k < 32 := by omega
    revert hk
    clear hv
    revert k
    decide
  have hne : v &&& 0x7CFFFF10 ≠ 0 := by
    intro h0
    have hbit := congrArg (·.getLsbD k) h0
    rw [BitVec.getLsbD_and, hv, hmask] at hbit
    simp at hbit
  rw [badVpsr, decide_eq_true hne, Bool.true_or]

/-- Settles O50: the clauses are the registers and values on which the write or the read part is a bad access. -/
theorem badIprAccesses : Obligations.BadIprAccesses := by
  intro s hm
  refine ⟨fun a b o ho => ?_, fun a d o ho => ?_⟩
  · rintro v n h
    show execMtpr a b s = badAccess { s with draws := o.state.draws }
    rw [execMtpr_kernel ho hm]
    rcases h with h | h | h | ⟨h, hv | hs⟩ | ⟨h, hp, hv⟩ | ⟨h, hp, k, hk, hv⟩ | ⟨h, hp, htb, hv⟩
    · exact mtprWrite_vaer _ _ h
    · exact mtprWrite_vmac _ _ h
    · exact mtprWrite_reserved _ _ h
    · exact mtprWrite_vsar_bad _ _ h (.inl (and_seven_ne_zero hv))
    · exact mtprWrite_vsar_bad _ _ h (.inr hs)
    · exact mtprWrite_vpsr_bad _ _ h hp (badVpsr_of_setting hv)
    · exact mtprWrite_vpsr_bad _ _ h hp (badVpsr_of_reserved hk hv)
    · exact mtprWrite_vtbia_nonzero _ _ h hp htb hv
  · rintro n h
    show execMfpr a d s = badAccess { s with draws := o.state.draws }
    rw [execMfpr_kernel ho hm]
    rcases h with h | h | ⟨h, hs⟩
    · exact mfprRead_vtbia _ _ _ h
    · exact mfprRead_reserved _ _ _ h
    · exact mfprRead_vsar_sync _ _ _ h hs

end Sys2Proof.Machine
end

section
/-! VPSR<STS> and VPSR<RLD>: what is stored of what is pending, the bytes in memory, and the way back. -/

namespace Sys2Proof.Machine

/-! ### MTPR to VPSR with no other bit set -/

/-- After its operands an MTPR sees the machine as it was, but for the scalar processor and the free values used. -/
theorem finishIpr_frame {s u : State} (h : RegistersOnly s u) (v next : Long) :
    finishIpr v next u = { s with cpu := (finishIpr v next u).cpu, draws := u.draws } ∧
      (finishIpr v next u).cpu.mm = s.cpu.mm :=
  ⟨congrArg (fun x : State => { x with cpu := (finishIpr v next u).cpu }) h, (congrArg (fun x : State => x.cpu.mm) h :)⟩

/-- In kernel mode MTPR to VPSR of a setting that is not bad. -/
theorem execMtpr_vpsr {a b : Spec} {s : State} {o : Operands} (ho : evalOperands 1 [.rl, .rl] [a, b] s = .ok o)
    (hm : s.mode = 0) (h90 : (o.value 1).lo = 0x90) (hp : s.cfg.vpPresent = true) (hv : badVpsr (o.value 0).lo = false) :
    execMtpr a b s = mtprVpsr (o.value 0).lo (finishIpr (o.value 0).lo o.next o.state) :=
  (execMtpr_kernel ho hm).trans (mtprWrite_vpsr _ _ (congrArg BitVec.toNat h90) hp hv)

/-- Without a write-one-to-clear bit nothing is cleared (R377 to R379). -/
theorem clearBits_none {v : Long} (h5 : v.getLsbD 5 = false) (h6 : v.getLsbD 6 = false) (h7 : v.getLsbD 7 = false)
    (h24 : v.getLsbD 24 = false) (h25 : v.getLsbD 25 = false) (s : State) : clearBits v s = s := by
  simp only [clearBits, h5, h6, h7, h24, h25, Bool.false_eq_true, if_false]

/-- Writing zero to VEN does nothing else (R372). -/
theorem writeVen_false_vp (s : State) : (writeVen false s).vp = { s.vp with vpsr := s.vp.vpsr &&& ~~~1 } := by
  have himp : (s.vp.impUnseen && !false) = s.vp.impUnseen := Bool.and_true _
  show ({ s.vp.setVpsr 0 false with impUnseen := s.vp.impUnseen && !false } : Vp) = _
  rw [himp]
  rfl

/-! ### The area at VSAR -/

/-- The area depends on VSAR, the page tables and the memory-management registers (R374). -/
theorem stateArea_congr {s t : State} (hc : t.cfg = s.cfg) (hp : t.pageMap = s.pageMap) (hv : t.vp = s.vp)
    (hm : t.cpu.mm = s.cpu.mm) (write : Bool) (n : Nat) : stateArea t write n = stateArea s write n := by
  have hregs : vectorRegs t = vectorRegs s := by unfold vectorRegs; rw [hc, hv, hm]
  induction n with
  | zero => rfl
  | succ n ih => simp only [stateArea, ih, hc, hp, hv, hregs]

theorem Memory.map_read_writeCells_zip {pas : List Nat} {bs : List Byte} {m : Memory} (hw : m.wf = true) (hn : pas.Nodup)
    (hl : bs.length = pas.length) : pas.map (m.writeCells (pas.zip bs)).read = bs := by
  induction pas generalizing bs m with
  | nil => exact (List.eq_nil_of_length_eq_zero hl).symm
  | cons a pas ih =>
    obtain ⟨b, bs, rfl⟩ := List.exists_cons_of_length_eq_add_one hl
    obtain ⟨ha, hn⟩ := List.nodup_cons.mp hn
    have hfst : (pas.zip bs).map Prod.fst = pas := List.map_fst_zip (by simpa using hl.ge)
    have hb : ((m.write a b).writeCells (pas.zip bs)).read a = b := by
      rw [Memory.read_writeCells_other _ _ _ (by rwa [hfst]), Memory.read_write_same m a b hw]
    exact congrArg₂ List.cons hb (ih (Memory.wf_write m a b hw) hn (by simpa using hl))

/-! ### What is stored -/

theorem savedQueue_getElem? {s : State} {k : Nat} {e : QEntry} (h : s.vp.queue[k]? = some e) :
    (savedQueue s)[k]? = some (savedEntry s.cfg.chaining (viewAt s k e) e) := by
  simp [savedQueue, entryViews, h]

/-- A stored instruction reads the elements that were known as they were, whatever is in the registers (R56, R188). -/
theorem savedEntry_sees_elem {w : View} {r : BitVec 4} {i : Fin 64} (h : w.hasElem r i = true) (chaining : Bool) (e : QEntry)
    (p : Vp) : ((savedEntry chaining w e).sees p).elem r i = w.p.elem r i := by
  have h' : (w.ready.v[r.toNat]).getLsbD i = true := h
  simp [savedEntry, QEntry.sees, Vp.elem, h']

/-- A stored instruction reads the mask bits that were known as they were (R56, R188). -/
theorem savedEntry_sees_vmr {w : View} {i : Nat} (h : w.ready.vmr.getLsbD i = true) (chaining : Bool) (e : QEntry) (p : Vp) :
    ((savedEntry chaining w e).sees p).vmr.getLsbD i = w.p.vmr.getLsbD i := by
  simp [savedEntry, QEntry.sees, pick, h]

/-- The bytes that VPSR<STS> writes: free values (R374). -/
def storedImage (s : State) (n : Nat) : List Byte := (List.range n).map fun j => (miscDraw s.draws j).extractLsb' 0 8

@[simp] theorem length_storedImage (s : State) (n : Nat) : (storedImage s n).length = n := by simp [storedImage]

/-- VPSR<STS> under prompt execution: bytes in the area, and a record of what they stand for. -/
theorem storeState_prompt {s : State} {pas : List Nat} (hs : s.sched = []) (hb : s.vp.vbuf = [])
    (ha : stateArea s true s.cfg.vsarStateLen = .ok pas) :
    storeState s = .next { s with
      mem := s.mem.writeCells (pas.zip (storedImage s pas.length))
      saved := ⟨storedImage s pas.length, savedQueue s, s.vp.pendingMm, s.vp.mf, s.vp.pmf⟩ :: s.saved
      draws := s.draws + 512 + pas.length } := by
  have hvp : ({ s.vp with vbuf := [] } : Vp) = s.vp := by rw [← hb]
  unfold storeState
  simp only [ha, State.prompt, State.flushVector, hs, hb, hvp, List.isEmpty_nil, if_true, List.nil_append,
    List.flatten_singleton]
  rfl

/-- MTPR to VPSR of STS alone, under prompt execution: the state is stored and VEN is written as zero. -/
theorem mtprVpsr_sts (s : State) {pas : List Nat} (hasync : s.cfg.isAsync = true) (hs : s.sched = []) (hb : s.vp.vbuf = [])
    (ha : stateArea s true s.cfg.vsarStateLen = .ok pas) :
    mtprVpsr 4 s = .next (rememberVen (writeVen false { s with
      mem := s.mem.writeCells (pas.zip (storedImage s pas.length))
      saved := ⟨storedImage s pas.length, savedQueue s, s.vp.pendingMm, s.vp.mf, s.vp.pmf⟩ :: s.saved
      draws := s.draws + 512 + pas.length })) := by
  have hstore : vpsrStore 4 s = storeState s := by
    rw [vpsrStore, hasync]
    rfl
  have hclear (u : State) : clearBits 4 u = u := clearBits_none (by decide) (by decide) (by decide) (by decide) (by decide) u
  show andThen (vpsrStore 4 s) _ = _
  rw [hstore, storeState_prompt hs hb ha, andThen_next, hclear]
  rfl

/-! ### What comes back -/

/-- Nothing leaves a queue that waits. -/
theorem retire_waits {p : Vp} (h : Waits p p.queue) : p.retire = p := by
  rcases h with hq | ⟨e, rest, hq, k, hk, hd, hl⟩
  · exact retire_nil p hq
  · have hopen : View.openElems ⟨p, {}⟩ e ≠ 0 := by
      intro h0
      have hbit := getLsbD_openElems p e k
      rw [h0, hk, hd, hl] at hbit
      simp [k.isLt] at hbit
    have hp : ({ p with queue := e :: rest } : Vp) = p := by rw [← hq]
    rw [Vp.retire, hq, retireList, View.complete, decide_eq_false hopen, if_neg Bool.false_ne_true, hp]

/-- What is brought back of a queue that waits, waits. -/
theorem waits_reloadedQueue {p p' : Vp} {q : List QEntry} (h : Waits p q) (hv : p'.vmr = p.vmr) (k n : Nat) :
    Waits p' (reloadedQueue k n q) := by
  rcases h with rfl | ⟨e, rest, rfl, i, hi, hd, hl⟩
  · exact .inl rfl
  · refine .inr ⟨_, _, List.mapIdx_cons, i, ?_, hd, hl⟩
    rw [sees_vmr_congr _ p p' hv]
    exact hi

theorem vectorByte_of_vbuf_nil {s : State} (h : s.vp.vbuf = []) (a : Nat) : s.vectorByte a = s.mem.read a := by
  simp [State.vectorByte, h, lastCell]

/-- VPSR<RLD> into an idle vector processor: the youngest record, where the bytes are its own, comes back. -/
theorem reloadState_idle {s : State} {pas : List Nat} {r : SavedRecord} {rest : List SavedRecord} (hb : s.vp.vbuf = [])
    (ha : stateArea s false s.cfg.vsarStateLen = .ok pas) (hr : s.saved = r :: rest) (hi : pas.map s.mem.read = r.image)
    (hq : s.vp.queue = []) (hz : s.vp.vpsr = 0) (hw : Waits s.vp r.queue) :
    reloadState s = .next { s with
      vp := { s.vp with
        queue := reloadedQueue 1 s.draws r.queue
        pendingMm := r.pendingMm
        vpsr := setBit (setBit 0 5 r.mf) 6 r.pmf }
      draws := s.draws + 512 * r.queue.length } := by
  have hbytes : r.image = pas.map s.vectorByte := by rw [← hi, funext (vectorByte_of_vbuf_nil hb)]
  have hmf : s.vp.mf = false := by rw [Vp.mf, hz]; rfl
  have hpmf : s.vp.pmf = false := by rw [Vp.pmf, hz]; rfl
  have hfind : s.saved.find? (fun x => decide (x.image = pas.map s.vectorByte)) = some r := by
    rw [hr]
    exact List.find?_cons_of_pos (decide_eq_true hbytes)
  have hfound : reloadState s = .next (reloadRecord r s) := by
    unfold reloadState
    simp only [ha, hfind]
  rw [hfound, reloadRecord, hq, hmf, hpmf, hz]
  simp only [Bool.or_false, Bool.false_eq_true, if_false, List.nil_append, nextReload, List.foldl_nil]
  rw [retire_waits]
  · rfl
  · refine waits_reloadedQueue hw ?_ _ _
    rfl

/-- MTPR to VPSR of RLD alone, into an idle vector processor: the state comes back and VEN is written as zero. -/
theorem mtprVpsr_rld (s : State) {pas : List Nat} {r : SavedRecord} {rest : List SavedRecord} (hasync : s.cfg.isAsync = true)
    (hb : s.vp.vbuf = []) (ha : stateArea s false s.cfg.vsarStateLen = .ok pas) (hr : s.saved = r :: rest)
    (hi : pas.map s.mem.read = r.image) (hq : s.vp.queue = []) (hz : s.vp.vpsr = 0) (hw : Waits s.vp r.queue) :
    mtprVpsr 8 s = .next (rememberVen (writeVen false { s with
      vp := { s.vp with
        queue := reloadedQueue 1 s.draws r.queue
        pendingMm := r.pendingMm
        vpsr := setBit (setBit 0 5 r.mf) 6 r.pmf }
      draws := s.draws + 512 * r.queue.length })) := by
  have hreload : vpsrReload 8 s = reloadState s := by
    rw [vpsrReload, hasync]
    rfl
  have hclear : clearBits 8 s = s := clearBits_none (by decide) (by decide) (by decide) (by decide) (by decide) s
  show andThen (vpsrReload 8 (clearBits 8 s)) _ = _
  rw [hclear, hreload, reloadState_idle hb ha hr hi hq hz hw, andThen_next]
  rfl

/-- PMF and MF as reloaded, and VEN clear. -/
theorem reloaded_bits (mf pmf : Bool) :
    (setBit (setBit 0 5 mf) 6 pmf &&& ~~~1).getLsbD 5 = mf ∧ (setBit (setBit 0 5 mf) 6 pmf &&& ~~~1).getLsbD 6 = pmf ∧
      (setBit (setBit 0 5 mf) 6 pmf &&& ~~~1).getLsbD 0 = false := by
  cases mf <;> cases pmf <;> decide

/-- Settles O56. The operands leave the vector processor alone; STS then writes the area and records what is pending, RLD finds
that record by its bytes. -/
theorem stateSaveAndReload : Obligations.StateSaveAndReload := by
  intro a b s o ho hm h90 hp ha hs hb
  obtain ⟨ht, hmm⟩ := finishIpr_frame (evalOperands_frame _ _ _ _ _ ho) (o.value 0).lo o.next
  have hexec := execMtpr_vpsr ho hm h90 hp
  generalize finishIpr (o.value 0).lo o.next o.state = t at ht hmm hexec
  generalize t.cpu = c at ht hmm
  subst ht
  have harea := stateArea_congr (t := { s with cpu := c, draws := o.state.draws }) (s := s) rfl rfl rfl hmm
  refine ⟨fun h4 pas hpas hn hwf => ?_, fun h8 pas r rest hpas hr hi hq hz hw => ?_⟩
  · rw [h4] at hexec
    rw [hexec (by decide),
      mtprVpsr_sts { s with cpu := c, draws := o.state.draws } ha hs hb ((harea _ _).trans hpas)]
    refine ⟨_, _, rfl, writeVen_false_vp _, rfl, fun k e he => ⟨_, savedQueue_getElem? he, rfl, fun p =>
      ⟨fun r i h => savedEntry_sees_elem h _ e p, fun i h => savedEntry_sees_vmr h _ e p⟩⟩, ?_, fun x hx => ?_⟩
    · exact Memory.map_read_writeCells_zip hwf hn (length_storedImage _ _)
    · refine Memory.read_writeCells_other _ _ _ fun h => hx ?_
      rwa [List.map_fst_zip (length_storedImage _ _).ge] at h
  · rw [h8] at hexec
    rw [hexec (by decide),
      mtprVpsr_rld { s with cpu := c, draws := o.state.draws } ha hb ((harea _ _).trans hpas) hr hi hq hz hw]
    obtain ⟨h5, h6, h0⟩ := reloaded_bits r.mf r.pmf
    exact ⟨_, rfl, rfl, writeVen_false_vp _, rfl, (congrArg Vp.mf (writeVen_false_vp _)).trans h5,
      (congrArg Vp.pmf (writeVen_false_vp _)).trans h6, (congrArg Vp.ven (writeVen_false_vp _)).trans h0⟩

end Sys2Proof.Machine
end

section
/-! The invariant of the machine, in parts: what it says of the vector processor's registers, of what is pending, and of what
VPSR<STS> stored; and the rule by which each change of one of them keeps it. -/

namespace Sys2Proof.Machine

/-! ### Bits of VPSR and VAER -/

theorem getLsbD_setBit (x : Long) {n : Nat} (hn : n < 32) (b : Bool) (i : Nat) :
    (setBit x n b).getLsbD i = if i = n then b else x.getLsbD i := by
  have hbit : (1#32 <<< n).getLsbD i = decide (i = n) := by
    rw [BitVec.getLsbD_shiftLeft, BitVec.getLsbD_one]
    by_cases h : i = n
    · simp [h, hn]
    · simp only [h, decide_false]
      by_cases hlt : i < n
      · simp [hlt]
      · have : i - n ≠ 0 := by omega
        simp [this]
  unfold setBit
  split
  · rename_i hb
    rw [BitVec.getLsbD_or, hbit]
    by_cases h : i = n <;> simp [h, hb]
  · rename_i hb
    rw [BitVec.getLsbD_and, BitVec.getLsbD_not, hbit]
    by_cases h : i = n
    · simp [h, hb]
    · simp only [h, decide_false, Bool.not_false, Bool.and_true, if_false]
      by_cases hi : i < 32
      · simp [hi]
      · simp [hi, BitVec.getLsbD_of_ge x i (by omega)]

/-- A longword has no bit outside a mask exactly if each of its bits is one of the mask. -/
theorem and_not_eq_zero_iff (x m : Long) : x &&& ~~~m = 0 ↔ ∀ i, x.getLsbD i = true → m.getLsbD i = true := by
  constructor
  · intro h i hi
    have hlt : i < 32 := BitVec.lt_of_getLsbD hi
    have hbit := congrArg (·.getLsbD i) h
    simpa [hi, hlt] using hbit
  · intro h
    refine BitVec.eq_of_getLsbD_eq fun i hi => ?_
    cases hx : x.getLsbD i with
    | false => simp [hx]
    | true => simp [hx, h i hx]

/-- The bits of VPSR that are kept in it: VEN, MF, PMF, AEX, IMP and IVO (R30). -/
def vpsrBits : List Nat := [0, 5, 6, 7, 24, 25]

theorem lt_of_mem_vpsrBits {n : Nat} (h : n ∈ vpsrBits) : n < 32 := by
  revert n
  decide

theorem setBit_reserved {x : Long} {n : Nat} (hx : x &&& ~~~0x030000E1 = 0) (hn : n ∈ vpsrBits) (b : Bool) :
    setBit x n b &&& ~~~0x030000E1 = 0 := by
  rw [and_not_eq_zero_iff] at hx ⊢
  intro i hi
  rw [getLsbD_setBit x (lt_of_mem_vpsrBits hn)] at hi
  split at hi
  · rename_i h
    subst h
    revert hn
    clear hi
    revert i
    decide
  · exact hx i hi

/-- No exception type has the number 4, which VAER does not define (R46). -/
def AexSet.Defined (t : AexSet) : Prop := t.getLsbD 4 = false

theorem AexSet.Defined.reserved {t : AexSet} (h : t.Defined) : t.zeroExtend 32 &&& 0x0000FFD0 = 0 := by
  unfold AexSet.Defined at h
  revert t
  decide

theorem vaerDest_reserved (n : BitVec 4) : vaerDest n &&& 0x0000FFD0 = 0 := by
  revert n
  decide

/-! ### The invariant in parts -/

/-- What the invariant says of VPSR, VAER, VSAR and the exception that PMF announces. -/
structure LegalRegs (c : Config) (vpsr vaer vsar : Long) (pending : Option MmFault) : Prop where
  reserved : vpsr &&& ~~~0x030000E1 = 0
  vaer : vaer &&& 0x0000FFD0 = 0
  vsar : vsar &&& 7 = 0
  imp : c.implementsImp = false → vpsr.getLsbD 24 = false
  ivo : c.implementsIvo = false → vpsr.getLsbD 25 = false
  announced : vpsr.getLsbD 6 = true → pending.isSome = true
  sync : c.isAsync = false → vpsr.getLsbD 6 = false ∧ vpsr.getLsbD 5 = false

/-- Under the synchronous method a pending instruction will meet no exception: its references have been checked (R174). -/
def QEntry.Guaranteed (e : QEntry) : Prop := e.fault = none ∧ (e.op.isMemory = true → e.checked.isSome = true)

/-- What the invariant says of the vector processor. -/
def LegalVp (c : Config) (p : Vp) : Prop :=
  LegalRegs c p.vpsr p.vaer p.vsar p.pendingMm ∧ (c.isAsync = false → ∀ e ∈ p.queue, e.Guaranteed)

/-- What the invariant says of what VPSR<STS> stored. -/
def LegalSaved (rs : List SavedRecord) : Prop := ∀ r ∈ rs, r.pmf = true → r.pendingMm.isSome = true

theorem legal_iff (s : State) : Legal s ↔ s.mem.wf = true ∧ LegalVp s.cfg s.vp ∧ LegalSaved s.saved := by
  constructor
  · rintro ⟨hmem, hvpsr, hvaer, hvsar, himp, hivo, hpmf, hsaved, hsync⟩
    exact ⟨hmem, ⟨⟨hvpsr, hvaer, hvsar, himp, hivo, hpmf, fun h => ⟨(hsync h).1, (hsync h).2.1⟩⟩, fun h => (hsync h).2.2⟩,
      hsaved⟩
  · rintro ⟨hmem, ⟨hregs, hqueue⟩, hsaved⟩
    exact ⟨hmem, hregs.reserved, hregs.vaer, hregs.vsar, hregs.imp, hregs.ivo, hregs.announced, hsaved,
      fun h => ⟨(hregs.sync h).1, (hregs.sync h).2, hqueue h⟩⟩

theorem Legal.mem {s : State} (h : Legal s) : s.mem.wf = true := ((legal_iff s).mp h).1
theorem Legal.vp {s : State} (h : Legal s) : LegalVp s.cfg s.vp := ((legal_iff s).mp h).2.1
theorem Legal.saved {s : State} (h : Legal s) : LegalSaved s.saved := ((legal_iff s).mp h).2.2

/-- A state whose vector processor alone differs. -/
theorem Legal.setVp {s : State} {p : Vp} (h : Legal s) (hp : LegalVp s.cfg p) : Legal (s.setVp p) :=
  (legal_iff _).mpr ⟨h.mem, hp, h.saved⟩

/-- A state whose memory alone differs. -/
theorem Legal.setMem {s : State} {m : Memory} (h : Legal s) (hm : m.wf = true) : Legal { s with mem := m } :=
  (legal_iff _).mpr ⟨hm, h.vp, h.saved⟩

theorem Legal.ite {s t : State} (c : Prop) [Decidable c] (hs : Legal s) (ht : Legal t) : Legal (if c then s else t) := by
  split <;> assumption

/-! ### The registers -/

section
variable {c : Config} {vpsr vaer vsar : Long} {pending pending' : Option MmFault}

theorem LegalRegs.setBit (h : LegalRegs c vpsr vaer vsar pending) {n : Nat} (hn : n ∈ vpsrBits) {b : Bool}
    (himp : n = 24 → b = true → c.implementsImp = true) (hivo : n = 25 → b = true → c.implementsIvo = true)
    (hpmf : n = 6 → b = true → pending.isSome = true) (hsync : n = 5 ∨ n = 6 → b = true → c.isAsync = true) :
    LegalRegs c (Machine.setBit vpsr n b) vaer vsar pending := by
  have hbit := getLsbD_setBit vpsr (lt_of_mem_vpsrBits hn) b
  refine ⟨setBit_reserved h.reserved hn b, h.vaer, h.vsar, fun hc => ?_, fun hc => ?_, fun hb => ?_, fun hc => ?_⟩
  · have := h.imp hc
    rw [hbit]
    split <;> simp_all
  · have := h.ivo hc
    rw [hbit]
    split <;> simp_all
  · rw [hbit] at hb
    split at hb
    · exact hpmf (by omega) hb
    · exact h.announced hb
  · obtain ⟨h6, h5⟩ := h.sync hc
    rw [hbit, hbit]
    constructor <;> split <;> simp_all

theorem LegalRegs.clearBit (h : LegalRegs c vpsr vaer vsar pending) {n : Nat} (hn : n ∈ vpsrBits) :
    LegalRegs c (Machine.setBit vpsr n false) vaer vsar pending :=
  h.setBit hn (by simp) (by simp) (by simp) (by simp)

/-- VEN and AEX, which nothing else depends on. -/
theorem LegalRegs.setVen (h : LegalRegs c vpsr vaer vsar pending) (b : Bool) :
    LegalRegs c (Machine.setBit vpsr 0 b) vaer vsar pending :=
  h.setBit (by decide) (by simp) (by simp) (by simp) (by simp)

theorem LegalRegs.setAex (h : LegalRegs c vpsr vaer vsar pending) (b : Bool) :
    LegalRegs c (Machine.setBit vpsr 7 b) vaer vsar pending :=
  h.setBit (by decide) (by simp) (by simp) (by simp) (by simp)

theorem LegalRegs.setPending (h : LegalRegs c vpsr vaer vsar pending) (hp : vpsr.getLsbD 6 = true → pending'.isSome = true) :
    LegalRegs c vpsr vaer vsar pending' :=
  ⟨h.reserved, h.vaer, h.vsar, h.imp, h.ivo, hp, h.sync⟩

theorem LegalRegs.setVaer (h : LegalRegs c vpsr vaer vsar pending) {x : Long} (hx : x &&& 0x0000FFD0 = 0) :
    LegalRegs c vpsr x vsar pending :=
  ⟨h.reserved, hx, h.vsar, h.imp, h.ivo, h.announced, h.sync⟩

theorem LegalRegs.setVsar (h : LegalRegs c vpsr vaer vsar pending) {x : Long} (hx : x &&& 7 = 0) :
    LegalRegs c vpsr vaer x pending :=
  ⟨h.reserved, h.vaer, hx, h.imp, h.ivo, h.announced, h.sync⟩

/-- VPSR is cleared, and what it announces with it (R373). -/
theorem LegalRegs.clear (h : LegalRegs c vpsr vaer vsar pending) : LegalRegs c 0 vaer vsar none :=
  ⟨by decide, h.vaer, h.vsar, fun _ => rfl, fun _ => rfl, fun h6 => Bool.noConfusion h6, fun _ => ⟨rfl, rfl⟩⟩

/-- What PMF announces is discarded with PMF (R379, R414). -/
theorem LegalRegs.clearPmf (h : LegalRegs c vpsr vaer vsar pending) :
    LegalRegs c (Machine.setBit vpsr 6 false) vaer vsar none :=
  (h.clearBit (by decide)).setPending fun hb => by
    rw [getLsbD_setBit vpsr (by decide)] at hb
    cases hb

end

/-! ### Arithmetic exceptions -/

theorem defined_zero : AexSet.Defined 0 := rfl
theorem defined_reservedOperand : AexSet.Defined AexSet.reservedOperand := rfl

theorem defined_ite {b : Bool} {t u : AexSet} (ht : t.Defined) (hu : u.Defined) : (if b then t else u).Defined := by
  split <;> assumption

theorem encode_defined {t : FloatFmt} {x : Ratio} {b : Bool} {ts : AexSet} (h : t.encode x b = .error ts) : ts.Defined := by
  unfold FloatFmt.encode at h
  simp only at h
  split_ifs at h <;> cases h <;> rfl

/-- The types of an element's result are those of the outcome. -/
theorem elem_defined (t : FloatFmt) {r : Except AexSet Quad} (h : ∀ ts, r = .error ts → ts.Defined) (free : Quad) :
    (t.elem r free).types.Defined := by
  cases r with
  | ok x => exact defined_zero
  | error ts => exact h ts rfl

theorem rsvdDivideTypes_defined (pick : Quad) : (rsvdDivideTypes pick).Defined := by
  unfold rsvdDivideTypes
  split <;> rfl

theorem farith_defined {t : FloatFmt} {op : FloatOp} {a b pick : Quad} {x : Bool} {ts : AexSet}
    (h : farith t op a b x pick = .error ts) : ts.Defined := by
  unfold farith at h
  simp only at h
  split at h
  · cases h
    exact defined_ite (rsvdDivideTypes_defined pick) rfl
  · split at h
    · cases h
      rfl
    · exact encode_defined h

theorem convertFromLong_defined (t : FloatFmt) (x free : Quad) : (convertFromLong t x free).types.Defined :=
  elem_defined t (fun _ => encode_defined) free

theorem convertToLong_defined (t : FloatFmt) (r b : Bool) (x free : Quad) : (convertToLong t r b x free).types.Defined := by
  unfold convertToLong
  split
  · exact defined_reservedOperand
  · exact defined_ite rfl rfl

theorem convertFloat_defined (src dst : FloatFmt) (b : Bool) (x free : Quad) :
    (convertFloat src dst b x free).types.Defined := by
  refine elem_defined dst (fun ts h => ?_) free
  split at h
  · cases h
    rfl
  · exact encode_defined h

theorem convertElem_defined (fn : BitVec 4) (b : Bool) (x free : Quad) : (convertElem fn b x free).types.Defined := by
  unfold convertElem
  split
  case h_1 | h_2 | h_3 => exact convertFromLong_defined ..
  case h_4 | h_5 | h_8 | h_10 | h_11 | h_13 => exact convertToLong_defined ..
  case h_6 | h_7 | h_9 | h_12 => exact convertFloat_defined ..
  case h_14 => exact defined_zero

/-- What an instruction does on an element raises types that VAER defines (R46). -/
theorem effectOf_defined (e : QEntry) (p : Vp) (i : Fin 64) : ((effectOf e p).elem i).types.Defined := by
  unfold effectOf
  split
  case h_1 => exact defined_ite rfl rfl
  case h_4 => exact elem_defined _ (fun _ => farith_defined) _
  case h_6 =>
    simp only [floatCompareEffect, floatCompare]
    split
    · exact defined_reservedOperand
    · exact defined_zero
  case h_7 => exact convertElem_defined ..
  case h_9 =>
    simp only [iotaEffect]
    split <;> exact defined_zero
  all_goals exact defined_zero

theorem unionTypes_defined {act : Nat → Bool} {f : Fin 64 → Elem} (h : ∀ i, (f i).types.Defined) :
    (unionTypes act f).Defined := by
  refine Bool.eq_false_iff.mpr fun hb => ?_
  obtain ⟨i, -, hi⟩ := (getLsbD_unionTypes act f 4).mp hb
  exact Bool.noConfusion ((h i).symm.trans hi)

/-! ### The vector processor -/

section
variable {c : Config} {p : Vp}

theorem LegalVp.recordAex (h : LegalVp c p) {ts : AexSet} (hts : ts.Defined) (dest : Option (BitVec 4)) :
    LegalVp c (p.recordAex ts dest) := by
  unfold Vp.recordAex
  split
  · exact h
  · refine ⟨((h.1.setAex true).setVen false).setVaer ?_, h.2⟩
    rw [BitVec.and_or_distrib_right, BitVec.and_or_distrib_right, h.1.vaer, hts.reserved]
    cases dest with
    | none => rfl
    | some n => rw [vaerDest_reserved]; rfl

/-- A queue whose instructions are all guaranteed to complete, as far as those of the old one are. -/
theorem LegalVp.setQueue (h : LegalVp c p) {q : List QEntry}
    (hq : c.isAsync = false → (∀ e ∈ p.queue, e.Guaranteed) → ∀ e ∈ q, e.Guaranteed) : LegalVp c { p with queue := q } :=
  ⟨h.1, fun hc => hq hc (h.2 hc)⟩

theorem LegalVp.mapQueue (h : LegalVp c p) {f : QEntry → QEntry} (hf : c.isAsync = false → ∀ e, e.Guaranteed → (f e).Guaranteed) :
    LegalVp c { p with queue := p.queue.map f } :=
  h.setQueue fun hc hq e he => by
    obtain ⟨e', he', rfl⟩ := List.mem_map.mp he
    exact hf hc e' (hq e' he')

theorem LegalVp.setEntry (h : LegalVp c p) {e : QEntry} (he : c.isAsync = false → e.Guaranteed) (k : Nat) :
    LegalVp c { p with queue := p.queue.set k e } :=
  h.setQueue fun hc hq _ hx => (List.mem_or_eq_of_mem_set hx).elim (hq _) fun hx => hx ▸ he hc

theorem LegalVp.append (h : LegalVp c p) {q : List QEntry} (hq : c.isAsync = false → ∀ e ∈ q, e.Guaranteed) :
    LegalVp c { p with queue := p.queue ++ q } :=
  h.setQueue fun hc hp _ hx => (List.mem_append.mp hx).elim (hp _) (hq hc _)

theorem QEntry.Guaranteed.forget {e : QEntry} (h : e.Guaranteed) : e.forget.Guaranteed := h

theorem LegalVp.forget (h : LegalVp c p) : LegalVp c p.forget := h.mapQueue (f := QEntry.forget) fun _ _ => id

theorem LegalVp.startQueue (h : LegalVp c p) (k : Nat) : LegalVp c { p with queue := Machine.startQueue k p.queue } :=
  h.setQueue fun _ hq e he => by
    obtain ⟨j, hj⟩ := List.mem_iff_getElem?.mp he
    obtain ⟨e', he', rfl | rfl⟩ := mem_startQueue hj
    · exact hq _ (List.mem_of_getElem? he')
    · exact hq e' (List.mem_of_getElem? he')

end

/-- What leaving the queue changes: the vector registers, VLR, VMR, VCR, what they depend on, and the queue, of which a part
stays. -/
theorem retireList_frame (q : List QEntry) (p : Vp) :
    ∃ q', q' <:+ q ∧ retireList q p = { p with
      v := (retireList q p).v, vlr := (retireList q p).vlr, vmr := (retireList q p).vmr, vcr := (retireList q p).vcr
      taint := (retireList q p).taint, queue := q' } := by
  induction q generalizing p with
  | nil => exact ⟨[], List.nil_suffix, rfl⟩
  | cons e q ih =>
    unfold retireList
    split
    · obtain ⟨q', hq', h⟩ := ih (e.settle p)
      refine ⟨q', hq'.trans (List.suffix_cons e q), ?_⟩
      have hs := settle_frame e p
      generalize retireList q (e.settle p) = r at h ⊢
      generalize e.settle p = x at hs h
      rw [h, hs]
    · exact ⟨e :: q, List.suffix_rfl, rfl⟩

theorem retire_frame (p : Vp) :
    ∃ q, q <:+ p.queue ∧ p.retire = { p with
      v := p.retire.v, vlr := p.retire.vlr, vmr := p.retire.vmr, vcr := p.retire.vcr, taint := p.retire.taint, queue := q } :=
  retireList_frame p.queue p

theorem LegalVp.retire {c : Config} {p : Vp} (h : LegalVp c p) : LegalVp c p.retire := by
  obtain ⟨q, hq, hp⟩ := retire_frame p
  rw [hp]
  exact ⟨h.1, fun hc e he => h.2 hc e (hq.mem he)⟩

end Sys2Proof.Machine
end

section
/-! Every part of a step keeps the invariant of the machine. -/

namespace Sys2Proof.Machine

/-- Every next state that `o` may be meets the invariant. -/
def AnswersLegal (o : Out) : Prop := ∀ t, o = .next t → Legal t

theorem Legal.answers {s : State} (h : Legal s) : AnswersLegal (.next s) := by
  rintro _ ⟨⟩
  exact h

theorem answersLegal_refused (r : Refusal) : AnswersLegal (.refused r) := by
  rintro _ ⟨⟩

theorem AnswersLegal.ite {o o' : Out} (c : Prop) [Decidable c] (h : AnswersLegal o) (h' : AnswersLegal o') :
    AnswersLegal (if c then o else o') := by
  split <;> assumption

theorem AnswersLegal.andThen {o : Out} {f : State → Out} (ho : AnswersLegal o) (hf : ∀ u, Legal u → AnswersLegal (f u)) :
    AnswersLegal (andThen o f) := by
  intro t ht
  obtain ⟨u, hu, hut⟩ := (andThen_eq_next _ _ _).mp ht
  exact hf u (ho u hu) t hut

/-! ### Updates of the state -/

theorem Legal.undoOperands {t : State} (h : Legal t) (s : State) : Legal (undoOperands s t) := h

theorem Legal.spend {s : State} (h : Legal s) : Legal s.spend := h

theorem Legal.setPc {s : State} (h : Legal s) (pc : Long) : Legal (s.setPc pc) := h

theorem Legal.registersOnly {s t : State} (h : Legal s) (ht : RegistersOnly s t) : Legal t := by
  rw [ht]
  exact h

theorem Legal.startTo {s : State} (h : Legal s) (k : Nat) : Legal (s.startTo k) := h.setVp (h.vp.startQueue k)

theorem Legal.putEntry {s : State} (h : Legal s) {e : QEntry} (he : s.cfg.isAsync = false → e.Guaranteed) (k : Nat) :
    Legal (s.putEntry k e) :=
  h.setVp (h.vp.setEntry he k).retire

theorem Legal.flushVector {s : State} (h : Legal s) : Legal s.flushVector :=
  (legal_iff _).mpr ⟨Memory.wf_writeCells _ _ h.mem, h.vp, h.saved⟩

theorem Legal.flushAll {s : State} (h : Legal s) : Legal s.flushAll :=
  h.flushVector.setMem (Memory.wf_writeCells _ _ h.flushVector.mem)

theorem Legal.prompt {s : State} (h : Legal s) : Legal s.prompt := .ite _ h.flushVector h

theorem Legal.onlyMoves {s t : State} (h : Legal s) (ht : OnlyMoves s t) : Legal t := by
  rw [ht]
  exact h

theorem Legal.completeWrite {s : State} (h : Legal s) (u : List Host.Cell) : Legal (s.completeWrite u) := by
  unfold State.completeWrite
  split
  · exact h
  · exact (legal_iff _).mpr ⟨Memory.wf_writeCells _ _ h.mem, h.vp, h.saved⟩

theorem Legal.settleRaces {s : State} (h : Legal s) : Legal s.settleRaces :=
  List.foldlRecOn s.races (fun s r => s.completeWrite r.2) (motive := Legal) h fun _ ht r _ => ht.completeWrite r.2

theorem LegalSaved.mapQueue {rs : List SavedRecord} (h : LegalSaved rs) (f : SavedRecord → List QEntry) :
    LegalSaved (rs.map fun r => { r with queue := f r }) := by
  intro r hr
  obtain ⟨r', hr', rfl⟩ := List.mem_map.mp hr
  exact h r' hr'

theorem Legal.forgetSaved {s : State} (h : Legal s) : Legal s.forgetSaved :=
  (legal_iff _).mpr ⟨h.mem, h.vp, h.saved.mapQueue _⟩

theorem Legal.reported {s : State} (h : Legal s) : Legal s.reported := (h.setVp h.vp.forget).forgetSaved

theorem Legal.retrySuspended {s : State} (h : Legal s) : Legal (retrySuspended s) := by
  unfold Machine.retrySuspended
  split
  · refine h.setVp ⟨h.vp.1.clearBit (by decide), (h.vp.mapQueue fun _ e he => ?_).2⟩
    split
    · exact he
    · exact he
  · exact h

theorem spoilDest_frame (w : View) (e : QEntry) (p : Vp) : spoilDest w e p = { p with v := (spoilDest w e p).v } := by
  unfold spoilDest
  split
  · split <;> rfl
  · rfl

/-- What suspending an instruction changes (R413, R416). -/
theorem suspend_eq (k : Nat) (w : View) (e : QEntry) (f : MmFault) (s : State) :
    ∃ v e', suspend k w e f s = s.spend.setVp { s.vp with
      v := v
      vpsr := setBit (setBit s.vp.vpsr 6 true) 5 true
      pendingMm := if s.vp.pmf then s.vp.pendingMm else some f
      queue := s.vp.queue.set k e' } := by
  by_cases hk : k = 0
  · simp only [suspend, hk, if_true]
    rw [spoilDest_frame]
    exact ⟨_, _, rfl⟩
  · simp only [suspend, hk, if_false]
    exact ⟨_, _, rfl⟩

/-- An instruction meets an exception under the asynchronous method only (R413). -/
theorem Legal.suspend {s : State} (h : Legal s) (ha : s.cfg.isAsync = true) (k : Nat) (w : View) (e : QEntry) (f : MmFault) :
    Legal (suspend k w e f s) := by
  obtain ⟨v, e', hs⟩ := suspend_eq k w e f s
  have hpending : (if s.vp.pmf then s.vp.pendingMm else some f).isSome = true := by
    split
    · rename_i hpmf
      exact h.vp.1.announced hpmf
    · rfl
  have hpmf := (h.vp.1.setPending fun _ => hpending).setBit (n := 6) (b := true) (by decide) (by simp) (by simp)
    (fun _ _ => hpending) fun _ _ => ha
  have hmf := hpmf.setBit (n := 5) (b := true) (by decide) (by simp) (by simp) (by simp) fun _ _ => ha
  rw [hs]
  exact h.spend.setVp ⟨hmf, fun hc => absurd (ha.symm.trans hc) (by decide)⟩

/-! ### Exceptions -/

theorem Legal.takeException {s : State} (h : Legal s) (e : Exc) : AnswersLegal (takeException e s) := by
  intro t ht
  rw [(takeException_keeps ht).1]
  exact h

theorem Legal.takeDisabled {s : State} (h : Legal s) : AnswersLegal (takeDisabled s) :=
  Legal.takeException (s := { s.reported with cpu := { s.cpu with afterDisabled := true } }) h.reported .disabled

theorem Legal.takePending {s : State} (h : Legal s) : AnswersLegal (takePending s) :=
  (h.setVp (p := { s.vp.setVpsr 6 false with pendingMm := none }) ⟨h.vp.1.clearPmf, h.vp.2⟩).takeException _

theorem LegalVp.reportImp {c : Config} {p : Vp} (h : LegalVp c p) : LegalVp c (reportImp c p) := by
  refine ⟨?_, ?_⟩
  · unfold Machine.reportImp
    split
    · rename_i hc
      exact (h.1.setBit (by decide) (fun _ _ => hc) (by simp) (by simp) (by simp)).setVen false
    · exact h.1.setVen false
  · unfold Machine.reportImp
    split <;> exact h.2

theorem LegalVp.reportIvo {c : Config} {p : Vp} (h : LegalVp c p) : LegalVp c (reportIvo c p) := by
  unfold Machine.reportIvo
  split
  · rename_i hc
    exact ⟨(h.1.setBit (by decide) (by simp) (fun _ _ => hc) (by simp) (by simp)).setVen false, h.2⟩
  · exact ⟨h.1.setVen false, h.2⟩

theorem Legal.reportHardware {s : State} (h : Legal s) : AnswersLegal (reportHardware s) := by
  unfold Machine.reportHardware
  split
  · exact (h.setVp (p := { s.vp with hwMem := false, hwOp := false }) h.vp).takeException _
  · exact (h.setVp h.vp.reportImp).answers

theorem Legal.takeBlocked {s : State} (h : Legal s) (orig : State) : AnswersLegal (takeBlocked orig s) := by
  unfold Machine.takeBlocked
  have hu := h.undoOperands orig
  simp only
  split
  · exact hu.takePending
  · split
    · exact (hu.setVp (p := { (Machine.undoOperands orig s).vp with hwMem := false, hwOp := false }) hu.vp).takeException _
    · refine Legal.takeDisabled ((legal_iff _).mpr ⟨h.mem, ?_, h.saved⟩)
      split
      · exact h.vp.reportImp
      · exact h.vp

theorem Legal.turnedAway {s : State} (h : Legal s) {out : Out} (ht : turnedAway s = some out) : AnswersLegal out := by
  unfold Machine.turnedAway at ht
  split_ifs at ht <;> cases ht
  · exact h.takeException _
  · exact h.takeDisabled
  · exact h.takePending
  · exact answersLegal_refused _

theorem Legal.execRei {s : State} (h : Legal s) : AnswersLegal (execRei s) := by
  rcases execRei_cases s with ⟨f, he⟩ | ⟨_, -, he⟩ <;> rw [he]
  · exact h.takeException _
  · exact Legal.answers h

/-! ### Operands -/

theorem Legal.withOperands {s : State} (h : Legal s) (header : Nat) (accs : List Access) (sps : List Spec) {f : Operands → Out}
    (hf : ∀ o, Legal o.state → o.state.cfg = s.cfg → AnswersLegal (f o)) : AnswersLegal (withOperands header accs sps s f) := by
  unfold Machine.withOperands
  split
  · exact h.takeException _
  · exact answersLegal_refused _
  · rename_i o ho
    have hs := evalOperands_frame _ _ _ _ _ ho
    exact hf o (h.registersOnly hs) hs.fields.1

theorem Legal.withVectorOperands {s : State} (h : Legal s) (accs : List Access) (sps : List Spec) {f : Operands → Out}
    (hf : ∀ o, Legal o.state → AnswersLegal (f o)) : AnswersLegal (withVectorOperands accs sps s f) := by
  intro t ht
  rcases withVectorOperands_cases ht with ⟨x, hx⟩ | ⟨o, ho, hft⟩
  · exact h.takeException x t hx
  · exact hf o (h.registersOnly (evalOperands_frame _ _ _ _ _ ho)) t hft

/-! ### Executing elements

Under the synchronous method a memory instruction is checked when it is sent (R174), so no move of its elements fails, and
nothing checks it again. -/

/-- References checked before meet no exception. -/
theorem moveRefs_faults {e : QEntry} (h : e.checked.isSome = true) (s : State) (p : Vp) (ad : Addressing) (size : Nat)
    (write : Bool) (m : Quad) : (moveRefs s e p ad size write m).faults = [] := by
  obtain ⟨l, hl⟩ := Option.isSome_iff_exists.mp h
  simp [moveRefs, hl]

theorem moveLoad_ok {sz : ElemSize} {ad : Addressing} {w : View} {e e' : QEntry} {m : Quad} {part : Option Nat} {s s' : State}
    (h : moveLoad sz ad w e m part s = .ok s' e') : OnlyMoves s s' ∧ e.OnlyProgress e' := by
  rcases moveLoad_cases sz ad w e m part s with ⟨r, -, hc⟩ | ⟨-, f, -, hc⟩ | ⟨-, -, e'', hc, he⟩ <;> rw [hc] at h <;> cases h
  exact ⟨loadTb_onlyMoves s _, he⟩

theorem moveLoad_failed {sz : ElemSize} {ad : Addressing} {w : View} {e e' : QEntry} {m : Quad} {part : Option Nat} {s s' : State}
    {f : MmFault} (h : moveLoad sz ad w e m part s = .failed f s' e') : OnlyMoves s s' ∧ e.checked = none := by
  rcases moveLoad_cases sz ad w e m part s with ⟨r, -, hc⟩ | ⟨-, f, hf, hc⟩ | ⟨-, -, e'', hc, he⟩ <;> rw [hc] at h <;> cases h
  refine ⟨loadTb_onlyMoves s _, Option.not_isSome_iff_eq_none.mp fun hsome => ?_⟩
  rw [moveRefs_faults hsome] at hf
  cases hf

theorem moveStore_ok {sz : ElemSize} {ad : Addressing} {w : View} {e e' : QEntry} {m : Quad} {part : Option Nat} {s s' : State}
    (h : moveStore sz ad w e m part s = .ok s' e') : OnlyMoves s s' ∧ e.OnlyProgress e' := by
  rcases moveStore_cases sz ad w e m part s with
    ⟨r, -, hc⟩ | ⟨-, -, hc⟩ | ⟨-, -, f, -, hc⟩ | ⟨-, -, -, e'', hc, he⟩ <;> rw [hc] at h <;> cases h
  exact ⟨storeElems_onlyMoves _ _ _ _ _ _ _ _ (loadTb_onlyMoves s _), he⟩

theorem moveStore_failed {sz : ElemSize} {ad : Addressing} {w : View} {e e' : QEntry} {m : Quad} {part : Option Nat} {s s' : State}
    {f : MmFault} (h : moveStore sz ad w e m part s = .failed f s' e') : OnlyMoves s s' ∧ e.checked = none := by
  rcases moveStore_cases sz ad w e m part s with
    ⟨r, -, hc⟩ | ⟨-, -, hc⟩ | ⟨-, -, f, hf, hc⟩ | ⟨-, -, -, e'', hc, he⟩ <;> rw [hc] at h <;> cases h
  refine ⟨storeElems_onlyMoves _ _ _ _ _ _ _ _ (loadTb_onlyMoves s _), Option.not_isSome_iff_eq_none.mp fun hsome => ?_⟩
  rw [moveRefs_faults hsome] at hf
  cases hf

theorem examine_ok {sz : ElemSize} {ad : Addressing} {write : Bool} {w : View} {e e' : QEntry} {s s' : State}
    (h : examine sz ad write w e s = .ok s' e') : OnlyMoves s s' ∧ ∃ l, e' = { e with checked := some l } := by
  rcases examine_cases sz ad write w e s with ⟨r, hc⟩ | ⟨f, -, hc⟩ | ⟨-, -, hc⟩ <;> rw [hc] at h <;> cases h
  exact ⟨loadTb_onlyMoves s _, _, rfl⟩

theorem examine_failed {sz : ElemSize} {ad : Addressing} {write : Bool} {w : View} {e e' : QEntry} {s s' : State} {f : MmFault}
    (h : examine sz ad write w e s = .failed f s' e') : OnlyMoves s s' := by
  rcases examine_cases sz ad write w e s with ⟨r, hc⟩ | ⟨f, -, hc⟩ | ⟨-, -, hc⟩ <;> rw [hc] at h <;> cases h
  exact loadTb_onlyMoves s _

/-- After a move of an instruction that the invariant holds of, if it fails under the asynchronous method only. -/
theorem Legal.settleMove {s : State} (h : Legal s) {k : Nat} {e : QEntry} (he : s.vp.queue[k]? = some e) (w : View) {m : Moved}
    (hok : ∀ s' e', m = .ok s' e' → OnlyMoves s s' ∧ (e.Guaranteed → e'.Guaranteed))
    (hfail : ∀ f s' e', m = .failed f s' e' → OnlyMoves s s' ∧ s.cfg.isAsync = true) : AnswersLegal (settleMove k w m) := by
  cases m with
  | refused r => exact answersLegal_refused r
  | ok s' e' =>
    obtain ⟨hs', hg⟩ := hok s' e' rfl
    have hcfg : s'.cfg = s.cfg := by rw [hs']
    refine ((h.onlyMoves hs').putEntry (fun hc => ?_) k).answers
    rw [resume_frame]
    exact hg (h.vp.2 (hcfg ▸ hc) e (List.mem_of_getElem? he))
  | failed f s' e' =>
    obtain ⟨hs', ha⟩ := hfail f s' e' rfl
    have hcfg : s'.cfg = s.cfg := by rw [hs']
    exact ((h.onlyMoves hs').suspend (hcfg ▸ ha) k w e' f).answers

theorem QEntry.OnlyProgress.guaranteed {e e' : QEntry} (h : e.OnlyProgress e') (he : e.Guaranteed) : e'.Guaranteed := by
  rw [h]
  exact he

/-- A memory instruction that is not checked is pending under the asynchronous method only. -/
theorem Legal.isAsync_of_unchecked {s : State} (h : Legal s) {e : QEntry} (he : e ∈ s.vp.queue) (hm : e.op.isMemory = true)
    (hc : e.checked = none) : s.cfg.isAsync = true := by
  by_contra ha
  have hsome := (h.vp.2 (Bool.eq_false_iff.mpr ha) e he).2 hm
  rw [hc] at hsome
  cases hsome

theorem Legal.operate {s : State} (h : Legal s) (k : Nat) (w : View) {e : QEntry} (he : e ∈ s.vp.queue) (m : Quad) :
    Legal (operate k w e m s) :=
  (h.setVp (h.vp.recordAex (unionTypes_defined (effectOf_defined e w.p)) (recordDest e))).putEntry (e := finishElems e w m)
    (fun hc => h.vp.2 hc e he) k

theorem Legal.runElems {s : State} (h : Legal s) (k : Nat) (m : Quad) (part : Option Nat) : AnswersLegal (runElems k m part s) := by
  unfold Machine.runElems
  split
  · exact h.answers
  · rename_i e he
    have hmem := List.mem_of_getElem? he
    simp only
    split
    · exact h.answers
    · split
      · rename_i sz ad hop
        refine h.settleMove he _ (fun s' e' hm => ?_) fun f s' e' hm => ?_
        · exact (moveLoad_ok hm).imp_right QEntry.OnlyProgress.guaranteed
        · exact (moveLoad_failed hm).imp_right (h.isAsync_of_unchecked hmem (by rw [hop]; rfl))
      · rename_i sz ad hop
        refine h.settleMove he _ (fun s' e' hm => ?_) fun f s' e' hm => ?_
        · exact (moveStore_ok hm).imp_right QEntry.OnlyProgress.guaranteed
        · exact (moveStore_failed hm).imp_right (h.isAsync_of_unchecked hmem (by rw [hop]; rfl))
      · exact (h.operate k _ hmem _).answers

theorem Legal.checkEntry {s : State} (h : Legal s) (ha : s.cfg.isAsync = true) (k : Nat) : AnswersLegal (checkEntry k s) := by
  unfold Machine.checkEntry
  split
  · exact h.answers
  · rename_i e he
    split
    · exact h.answers
    · refine h.settleMove he _ (fun s' e' hm => ?_) fun f s' e' hm => ⟨examine_failed hm, ha⟩
      obtain ⟨hs, l, rfl⟩ := examine_ok hm
      exact ⟨hs, fun hg => ⟨hg.1, fun _ => rfl⟩⟩

/-- What is checked next is a pending memory instruction that has not been. -/
theorem nextCheck_some {s : State} {g : Goal} {k : Nat} (h : nextCheck s g = some k) :
    ∃ e ∈ s.vp.queue, e.op.isMemory = true ∧ e.checked = none := by
  obtain ⟨x, hx, hk⟩ := List.exists_of_findSome?_eq_some h
  simp only [Option.ite_none_right_eq_some, Bool.and_eq_true] at hk
  obtain ⟨⟨⟨hmust, -⟩, -⟩, -⟩ := hk
  simp only [Goal.mustCheck, Bool.and_eq_true, Option.isNone_iff_eq_none] at hmust
  obtain ⟨⟨⟨-, hmem⟩, hchecked⟩, -⟩ := hmust
  refine ⟨x.1.2, ?_, hmem, hchecked⟩
  have hview : x.1 ∈ entryViews s := List.fst_mem_of_mem_zipIdx hx
  obtain ⟨j, hj, hxj⟩ := List.mem_mapIdx.mp hview
  rw [← hxj]
  exact List.getElem_mem hj

/-- A wait keeps the invariant: it checks what is not checked, which is pending under the asynchronous method only (R351). -/
theorem Legal.pursue {s : State} (h : Legal s) (stop : State → Bool) (goal : State → Goal) :
    AnswersLegal (pursue stop goal s) := by
  unfold Machine.pursue
  generalize 66 * s.vp.queue.length = fuel
  induction fuel generalizing s with
  | zero => exact h.answers
  | succ fuel ih =>
    unfold pursueFuel
    split
    · exact h.answers
    · split
      · exact ((h.startTo _).runElems _ _ _).andThen fun u hu => ih hu
      · rename_i k _ hk
        obtain ⟨e, he, hm, hc⟩ := nextCheck_some hk
        exact ((h.startTo k).checkEntry (h.isAsync_of_unchecked he hm hc) k).andThen fun u hu => ih hu
      · exact h.answers

theorem Legal.drain {s : State} (h : Legal s) : AnswersLegal (drain s) :=
  fun _ => drain_keeps Legal (fun k _ hu => hu.startTo k) (fun k m _ t hu => hu.runElems k m none t) h

/-! ### Between two instructions -/

theorem Legal.happen {s : State} (h : Legal s) (ev : Event) : AnswersLegal (happen ev s) := by
  cases ev with
  | run k elems part =>
    simp only [Machine.happen, runEntry]
    split
    · exact h.answers
    · exact .ite _ ((h.startTo k).runElems _ _ _) h.answers
  | scalarVisible j =>
    simp only [Machine.happen]
    split
    · exact Legal.answers (h.setMem (Memory.wf_writeCells _ _ h.mem) :)
    · exact h.answers
  | vectorVisible j =>
    simp only [Machine.happen]
    split
    · exact Legal.answers (h.setMem (Memory.wf_writeCells _ _ h.mem) :)
    · exact h.answers
  | visibleAtRead n j =>
    simp only [Machine.happen]
    split <;> exact Legal.answers h
  | venFollows | venStale | clearTakesEffect | hardwareError => exact Legal.answers h
  | hardwareReport => exact .ite _ h.reportHardware h.answers

theorem Legal.happenAll {s : State} (h : Legal s) (evs : List Event) : AnswersLegal (happenAll evs s) :=
  fun _ => happenAll_keeps Legal (fun ev _ _ t hu => hu.happen ev t) h

theorem Legal.whileRetrying {s : State} (h : Legal s) : AnswersLegal (whileRetrying s) :=
  fun _ => whileRetrying_keeps Legal (fun _ _ hu => hu) (fun ev _ _ t hu => hu.happen ev t) h

theorem Legal.makeRoom {s : State} (h : Legal s) : AnswersLegal (makeRoom s) := by
  unfold Machine.makeRoom
  split
  · exact h.whileRetrying.andThen fun u hu _ =>
      makeRoomFuel_keeps Legal (fun k _ hv => hv.startTo k) (fun k m _ t hv => hv.runElems k m none t) hu
  · exact h.answers

theorem Legal.settle {s : State} (h : Legal s) : AnswersLegal (settle s) :=
  .ite _ (h.drain.andThen fun _ hu => hu.flushVector.answers) h.answers

theorem Legal.advance {s : State} (h : Legal s) : AnswersLegal (advance s) := by
  unfold Machine.advance
  have hs := h.settleRaces
  simp only
  split
  · refine hs.drain.andThen fun u hu => ?_
    have hclear : Legal u.flushAll.clearNow := hu.flushAll
    exact (AnswersLegal.ite _ hclear.reportHardware hclear.answers).andThen fun v hv => Legal.answers hv
  · rename_i p ps _
    exact Legal.happenAll (s := { s.settleRaces with sched := ps }) hs p

/-! ### Issue -/

theorem Legal.readyToSend {s : State} (h : Legal s) : AnswersLegal (readyToSend s) := h.retrySuspended.makeRoom

theorem Legal.append {s : State} (h : Legal s) {e : QEntry} (he : s.cfg.isAsync = false → e.Guaranteed) :
    LegalVp s.cfg { s.vp with queue := s.vp.queue ++ [e] }.retire :=
  (h.vp.append fun hc _ hx => List.mem_singleton.mp hx ▸ he hc).retire

theorem Legal.settle_enqueue {s : State} (h : Legal s) {e : QEntry} (he : s.cfg.isAsync = false → e.Guaranteed) (next : Long) :
    AnswersLegal (Machine.settle (enqueue e next s)) :=
  Legal.settle (s := enqueue e next s) ((legal_iff _).mpr ⟨h.mem, h.append he, h.saved⟩)

/-- What stays pending of an instruction that is backed up will meet no exception (R412). -/
theorem Legal.spoil {s : State} (h : Legal s) {e : QEntry} (he : e.fault = none) (sz : ElemSize) (ad : Addressing) (store : Bool)
    (w : View) (oks : List (Nat × Nat)) : Legal (spoil sz ad store w e oks s) := by
  unfold Machine.spoil
  simp only
  split
  · refine Legal.setVp (h.onlyMoves (storeElems_onlyMoves _ _ _ _ _ _ _ _ (.refl s))) ?_
    exact Legal.append (e := backedUpStore s.cfg sz ad w e _)
      (h.onlyMoves (storeElems_onlyMoves _ _ _ _ _ _ _ _ (.refl s))) fun _ => ⟨he, fun _ => rfl⟩
  · exact h.setVp (h.append (e := backedUp w e ad) fun _ => ⟨he, fun hm => Bool.noConfusion hm⟩)

theorem Legal.checkAtIssue {s : State} (h : Legal s) {e : QEntry} (he : e.fault = none) (sz : ElemSize) (ad : Addressing)
    (store : Bool) (next : Long) (orig : State) : AnswersLegal (checkAtIssue sz ad store e next orig s) := by
  refine (h.pursue _ _).andThen fun u hu => ?_
  split
  · exact hu.takeBlocked orig
  · simp only
    split
    · exact answersLegal_refused _
    · rename_i f s' e' hm
      exact Legal.takeException (((hu.onlyMoves (examine_failed hm)).spoil he _ _ _ _ _).prompt.undoOperands orig) _
    · rename_i s' e' hm
      obtain ⟨hs, l, rfl⟩ := examine_ok hm
      exact (hu.onlyMoves hs).settle_enqueue (e := { e with checked := some l }) (fun _ => ⟨he, fun _ => rfl⟩) next

theorem access_of_isMemory {op : VOp} (h : op.isMemory = true) : ∃ a, op.access = some a := by
  cases op with
  | load sz ad | store sz ad => exact ⟨_, rfl⟩
  | _ => cases h

/-- Under the synchronous method a memory instruction is checked before it joins the queue (R174). -/
theorem Legal.send {s : State} (h : Legal s) {e : QEntry} (he : e.fault = none) (next : Long) (orig : State) :
    AnswersLegal (send e next orig s) := by
  unfold Machine.send
  split
  · exact h.takeBlocked orig
  · simp only
    split
    · exact Legal.checkAtIssue (e := { e with draw := s.draws }) h.spend he _ _ _ _ _
    · rename_i hno
      refine Legal.settle_enqueue (e := { e with draw := s.draws }) h.spend (fun hc => ⟨he, fun hm => ?_⟩) next
      obtain ⟨⟨sz, ad, write⟩, ha⟩ := access_of_isMemory hm
      exact (hno sz ad write hc ha).elim

theorem Legal.issueOp {s : State} {o : Operands} (h : Legal o.state) (op : VOp) (sps : List Spec) :
    AnswersLegal (issueOp op sps o s) := by
  intro t ht
  obtain ⟨-, u, hu, hut⟩ := issueOp_cases ht
  exact (h.readyToSend u hu).send (e := entryOf op o s) rfl _ _ t hut

theorem Legal.issue {s : State} (h : Legal s) (op : VOp) (sps : List Spec) : AnswersLegal (issue op sps s) := by
  refine h.withVectorOperands _ _ fun o ho => ?_
  split
  · rename_i ht
    exact h.turnedAway ht
  · exact ho.issueOp op sps

theorem Legal.issueByRegnum {s : State} (h : Legal s) (accs : List Access) (sel : Word → Option VOp) (sps : List Spec) :
    AnswersLegal (issueByRegnum accs sel sps s) := by
  refine h.withVectorOperands _ _ fun o ho => ?_
  split
  · rename_i ht
    exact h.turnedAway ht
  · split
    · exact answersLegal_refused _
    · exact ho.issueOp _ sps

theorem Legal.idleAtFault {s : State} (h : Legal s) (fn : MfvpFn) (may : Quad) : AnswersLegal (idleAtFault fn may s) := by
  unfold Machine.idleAtFault
  split
  · exact h.answers
  all_goals exact .ite _ h.spend.drain h.answers

theorem Legal.writeDest {s : State} (h : Legal s) (d : Operand) (v : Long) : Legal (writeDest d v s) := by
  rw [writeDest_keeps]
  exact h

theorem Legal.finishMfvp {s : State} (h : Legal s) (fn : MfvpFn) (o : Operands) (orig : State) :
    AnswersLegal (finishMfvp fn o orig s) := by
  refine (h.idleAtFault fn _).andThen fun u hu => ?_
  split
  · exact Legal.takeDisabled hu.spend
  · split
    · exact (hu.spend.undoOperands orig).takePending
    · split
      · exact hu.spend.takeBlocked orig
      · refine ((Legal.spend ?_).writeDest _ _).setPc _ |>.answers
        split
        · exact hu.flushAll
        · exact hu.prompt

theorem Legal.issueMfvp {s : State} (h : Legal s) (sel : Word → Option MfvpFn) (sps : List Spec) :
    AnswersLegal (issueMfvp sel sps s) := by
  refine h.withVectorOperands _ _ fun o ho => ?_
  split
  · rename_i ht
    exact h.turnedAway ht
  · split
    · exact answersLegal_refused _
    · refine ho.readyToSend.andThen fun u hu => ?_
      split
      · exact hu.takeBlocked s
      · exact hu.whileRetrying.andThen fun v hv => (hv.pursue _ _).andThen fun x hx => hx.finishMfvp _ o s

theorem Legal.exec {s : State} (h : Legal s) (i : Instr) : AnswersLegal (exec i s) := by
  rcases exec_cases i s with ⟨op, sps, he⟩ | ⟨accs, sel, sps, he⟩ | ⟨sel, sps, he⟩ <;> rw [he]
  · exact h.issue op sps
  · exact h.issueByRegnum accs sel sps
  · exact h.issueMfvp sel sps

theorem Legal.execIvo {s : State} (h : Legal s) (accs : List Access) (sps : List Spec) : AnswersLegal (execIvo accs sps s) := by
  refine h.withVectorOperands _ _ fun o ho => ?_
  split
  · rename_i ht
    exact h.turnedAway ht
  · refine ho.readyToSend.andThen fun u hu => ?_
    split
    · exact hu.takeBlocked s
    · exact ((hu.setVp hu.vp.reportIvo).setPc _).answers

/-! ### The processor registers -/

theorem Legal.badAccess {s : State} (h : Legal s) : AnswersLegal (badAccess s) := by
  unfold Machine.badAccess
  split
  · exact h.takeException _
  · exact answersLegal_refused _

theorem LegalVp.clearVaer {c : Config} {p : Vp} (h : LegalVp c p) : LegalVp c (clearVaer p) :=
  LegalVp.forget (p := { p.setVpsr 7 false with vaer := 0, vaerOld := 0 }) ⟨(h.1.setAex false).setVaer BitVec.zero_and, h.2⟩

theorem Legal.startClear {s : State} (h : Legal s) : Legal (startClear s) := by
  refine (h.setVp ?_).forgetSaved
  split <;> exact h.vp.clearVaer

/-- Giving up everything pending leaves the registers that the invariant speaks of, and an empty queue (R373, R423). -/
theorem Legal.discardPending {s : State} (h : Legal s) : LegalVp s.cfg (discardPending s) := by
  rw [discardPending_frame]
  exact ⟨h.vp.1, fun _ e he => (List.not_mem_nil he).elim⟩

theorem Legal.resetVp {s : State} (h : Legal s) : Legal (resetVp s) := by
  obtain ⟨hregs, hqueue⟩ := h.discardPending
  exact (h.setVp (p := { Machine.discardPending s with
    vpsr := 0, pendingMm := none, halted := false, flushOnEnable := false, impUnseen := false }) ⟨hregs.clear, hqueue⟩).startClear

theorem Legal.clearMf {s : State} (h : Legal s) : Legal (clearMf s) := by
  unfold Machine.clearMf
  split
  · rename_i hmf
    refine h.setVp (LegalVp.retire ⟨h.vp.1.clearBit (by decide), fun hc => ?_⟩)
    exact Bool.noConfusion ((h.vp.1.sync hc).2.symm.trans hmf)
  · exact h

theorem Legal.clearVpsr {s : State} (h : Legal s) {n : Nat} (hn : n ∈ vpsrBits) : Legal (s.setVp (s.vp.setVpsr n false)) :=
  h.setVp ⟨h.vp.1.clearBit hn, h.vp.2⟩

theorem Legal.clearBits {s : State} (h : Legal s) (v : Long) : Legal (clearBits v s) := by
  unfold Machine.clearBits
  extract_lets s₁ cleared s₂ s₃ s₄
  have h₁ : Legal s₁ := .ite _ h.clearMf h
  have h₂ : Legal s₂ := .ite _ (h₁.setVp (p := { s₁.vp.setVpsr 6 false with pendingMm := none }) ⟨h₁.vp.1.clearPmf, h₁.vp.2⟩) h₁
  have h₃ : Legal s₃ := .ite _ (h₂.clearVpsr (by decide)) h₂
  have h₄ : Legal s₄ := .ite _ (h₃.clearVpsr (by decide)) h₃
  exact .ite _ h₄.startClear h₄

theorem Legal.writeVen {s : State} (h : Legal s) (b : Bool) : Legal (writeVen b s) := by
  unfold Machine.writeVen
  extract_lets p s'
  have hs' : Legal s' :=
    .ite _ (h.setVp (p := { Machine.discardPending s with flushOnEnable := false, halted := false }) h.discardPending) h
  exact hs'.setVp (p := { s'.vp.setVpsr 0 b with impUnseen := s'.vp.impUnseen && !b }) ⟨hs'.vp.1.setVen b, hs'.vp.2⟩

theorem LegalSaved.cons {r : SavedRecord} {rs : List SavedRecord} (hr : r.pmf = true → r.pendingMm.isSome = true)
    (h : LegalSaved rs) : LegalSaved (r :: rs) :=
  List.forall_mem_cons.mpr ⟨hr, h⟩

theorem Legal.storeState {s : State} (h : Legal s) : AnswersLegal (storeState s) := by
  unfold Machine.storeState
  split
  · exact answersLegal_refused _
  · exact Legal.answers (Legal.prompt ((legal_iff _).mpr ⟨h.mem, h.vp, LegalSaved.cons h.vp.1.announced h.saved⟩))

/-- A reload happens under the asynchronous method only, and where it sets PMF an exception comes with it (R375). -/
theorem Legal.reloadRecord {s : State} (h : Legal s) (ha : s.cfg.isAsync = true) {r : SavedRecord}
    (hr : r.pmf = true → r.pendingMm.isSome = true) : Legal (reloadRecord r s) := by
  have hpending : (r.pmf || s.vp.pmf) = true → (if s.vp.pmf then s.vp.pendingMm else r.pendingMm).isSome = true := by
    intro hor
    split
    · rename_i hpmf
      exact h.vp.1.announced hpmf
    · rename_i hpmf
      exact hr (by simpa [hpmf] using hor)
  have hkept : s.vp.vpsr.getLsbD 6 = true → (if s.vp.pmf then s.vp.pendingMm else r.pendingMm).isSome = true :=
    fun h6 => hpending (by rw [show s.vp.pmf = true from h6, Bool.or_true])
  have hmf := (h.vp.1.setPending hkept).setBit (n := 5) (b := r.mf || s.vp.mf) (by decide) (by simp) (by simp) (by simp)
    fun _ _ => ha
  have hpmf := hmf.setBit (n := 6) (b := r.pmf || s.vp.pmf) (by decide) (by simp) (by simp) (fun _ => hpending) fun _ _ => ha
  exact (legal_iff _).mpr ⟨h.mem, LegalVp.retire ⟨hpmf, fun hc => absurd (ha.symm.trans hc) (by decide)⟩, h.saved⟩

theorem unknownRecord_announces (c : Config) (n : Nat) (h : (unknownRecord c n).pmf = true) :
    (unknownRecord c n).pendingMm.isSome = true := by
  have hbit : (miscDraw n 0).getLsbD 1 = true := h
  simp only [unknownRecord, hbit, if_true, Option.isSome_some]

theorem Legal.reloadState {s : State} (h : Legal s) (ha : s.cfg.isAsync = true) : AnswersLegal (reloadState s) := by
  unfold Machine.reloadState
  split
  · exact answersLegal_refused _
  · split
    · rename_i r hr
      exact (h.reloadRecord ha (h.saved r (List.mem_of_find?_eq_some hr))).answers
    · exact (h.spend.reloadRecord ha (unknownRecord_announces _ _)).answers

theorem Legal.mtprVpsr {s : State} (h : Legal s) (v : Long) : AnswersLegal (mtprVpsr v s) := by
  have hreset : AnswersLegal (vpsrReset v s) := .ite _ (.ite _ (answersLegal_refused _) h.resetVp.answers) h.answers
  have hstore (u : State) (hu : Legal u) : AnswersLegal (vpsrStore v u) := .ite _ hu.storeState hu.answers
  have hreload (u : State) (hu : Legal u) : AnswersLegal (vpsrReload v u) := by
    unfold vpsrReload
    split
    · rename_i hc
      exact hu.reloadState ((Bool.and_eq_true _ _).mp hc).2
    · exact hu.answers
  exact hreset.andThen fun u hu => (hstore u hu).andThen fun x hx =>
    (hreload _ (hx.clearBits v)).andThen fun y hy => Legal.answers (s := rememberVen _) (hy.writeVen _)

/-- An invalidation leaves what is checked under the synchronous method (R115, R174). -/
theorem LegalVp.invalidate {c : Config} {p : Vp} (h : LegalVp c p) (stale : MapRow → Bool) :
    LegalVp c (invalidate c.isAsync stale p) := by
  refine LegalVp.mapQueue (p := { p with tb := _ }) h fun hc e he => ?_
  rw [hc]
  exact he

theorem Legal.mtprScalar {s : State} (h : Legal s) (n v : Long) : AnswersLegal (mtprScalar n v s) := by
  have hregs (f : MmRegs → MmRegs) : AnswersLegal (.next (setMmRegs f s)) := Legal.answers h
  have hcpu (c : Scalar) : AnswersLegal (.next { s with cpu := c }) := Legal.answers h
  have hvp (stale : MapRow → Bool) : AnswersLegal (.next (s.setVp (invalidate s.cfg.isAsync stale s.vp))) :=
    (h.setVp (h.vp.invalidate stale)).answers
  exact .ite _ (hregs _) <| .ite _ (hregs _) <| .ite _ (hregs _) <| .ite _ (hregs _) <| .ite _ (hregs _) <|
    .ite _ (hregs _) <| .ite _ (hregs _) <| .ite _ (hcpu _) <| .ite _ (.ite _ (answersLegal_refused _) (hcpu _)) <|
    .ite _ (hvp _) <| .ite _ (hvp _) <| answersLegal_refused _

/-- An MTPR goes on from the state `t` after the operands, or takes its exception on `s`. -/
theorem Legal.mtprWrite {s t : State} (hs : Legal s) (ht : Legal t) (n v : Long) : AnswersLegal (mtprWrite n v s t) := by
  unfold Machine.mtprWrite
  simp only
  split
  · exact .ite _ ht.answers (.ite _ hs.badAccess (ht.mtprVpsr v))
  · exact hs.badAccess
  · exact hs.badAccess
  · refine .ite _ ht.answers (.ite _ hs.badAccess (ht.setVp (p := invalidateOwn t.vp) ?_).answers)
    exact LegalVp.mapQueue (p := { t.vp with tb := [] }) ht.vp fun _ _ => id
  · split
    · exact hs.badAccess
    · rename_i hv
      simp only [Bool.or_eq_true, not_or, decide_eq_true_eq, ne_eq, not_not] at hv
      exact (ht.setVp (p := { t.vp with vsar := v }) ⟨ht.vp.1.setVsar hv.2, ht.vp.2⟩).answers
  · exact .ite _ hs.badAccess (ht.mtprScalar n v)

theorem Legal.execMtpr {s : State} (h : Legal s) (src procreg : Spec) : AnswersLegal (execMtpr src procreg s) :=
  h.withOperands _ _ _ fun o ho _ => .ite _ (h.takeException _) <|
    Legal.mtprWrite (s := { s with draws := o.state.draws }) (t := finishIpr _ _ _) h ho _ _

theorem Legal.finishMfpr {s : State} (h : Legal s) (v : Long) (o : Operands) : AnswersLegal (finishMfpr v o s) :=
  Legal.answers (s := finishIpr _ _ _) (h.writeDest (o.dest 1) v)

theorem Legal.withReport {s : State} (h : Legal s) (met : Bool) (orig : State) {f : State → Out}
    (hf : ∀ u, Legal u → AnswersLegal (f u)) : AnswersLegal (withReport met orig s f) := by
  unfold Machine.withReport
  split
  · split
    · exact (h.undoOperands orig).reportHardware
    · exact hf _ (h.setVp h.vp.reportImp)
  · exact hf s h

theorem Legal.completeMtpr {s : State} (h : Legal s) : Legal (completeMtpr s) :=
  List.foldlRecOn s.vp.storing (fun s u => s.completeWrite u) (motive := Legal) (b := s.clearNow) h
    fun _ ht u _ => ht.completeWrite u

theorem Legal.mfprVpsr {s : State} (h : Legal s) (o : Operands) (orig : State) : AnswersLegal (mfprVpsr o orig s) := by
  unfold Machine.mfprVpsr
  refine h.completeMtpr.withReport _ _ fun u hu => ?_
  have hseen : Legal { u.seeVen with cpu := { u.seeVen.cpu with venOld := none } } := hu
  exact Legal.finishMfpr (.ite _ hseen.reported hseen) _ o

theorem Legal.mfprVmac {s : State} (h : Legal s) (o : Operands) (orig : State) : AnswersLegal (mfprVmac o orig s) :=
  (h.pursue _ _).andThen fun _ hu => hu.flushAll.withReport _ _ fun x hx => by
    have hseen : Legal (seeImp x) := .ite _ hx hx
    exact hseen.spend.finishMfpr _ o

theorem Legal.mfprVaer {s : State} (h : Legal s) (o : Operands) : AnswersLegal (mfprVaer o s) :=
  Legal.finishMfpr (.ite _ h.reported h) _ o

/-- An MFPR goes on from the state `t` after the operands, or takes its exception on `s`. -/
theorem Legal.mfprRead {s t : State} (hs : Legal s) (ht : Legal t) (n : Long) (o : Operands) : AnswersLegal (mfprRead n o s t) := by
  unfold Machine.mfprRead
  simp only
  split
  · exact .ite _ (ht.mfprVpsr o s) (ht.finishMfpr _ o)
  · exact .ite _ (ht.mfprVaer o) hs.badAccess
  · exact .ite _ (ht.mfprVmac o s) (ht.spend.finishMfpr _ o)
  · exact hs.badAccess
  · exact .ite _ (ht.finishMfpr _ o) hs.badAccess
  · split
    · exact hs.badAccess
    · split
      · exact ht.finishMfpr _ o
      · exact answersLegal_refused _

theorem Legal.execMfpr {s : State} (h : Legal s) (procreg dst : Spec) : AnswersLegal (execMfpr procreg dst s) :=
  h.withOperands _ _ _ fun o ho _ => .ite _ (h.takeException _) <|
    Legal.mfprRead (s := { s with draws := o.state.draws }) h ho _ o

theorem Legal.execScalar {s : State} (h : Legal s) (i : ScalarInstr) : AnswersLegal (execScalar i s) := by
  cases i with
  | mtpr src procreg => exact h.execMtpr src procreg
  | mfpr procreg dst => exact h.execMfpr procreg dst
  | rei => exact h.execRei

/-! ### Fetching and the step -/

theorem Legal.decodeFailure {s : State} (h : Legal s) (vector : Bool) (f : Fetched) (e : DecodeError) :
    AnswersLegal (decodeFailure vector s f e) := by
  unfold Machine.decodeFailure
  split
  · split <;> exact h.takeException _
  · exact h.takeException _
  · exact h.takeException _
  · exact answersLegal_refused _
  · exact .ite _ (h.takeException _) (answersLegal_refused _)

theorem Legal.specifierFailure {s : State} (h : Legal s) (f : Fetched) (e : DecodeError) :
    AnswersLegal (specifierFailure f e s) := by
  have hfail (vector : Bool) := h.decodeFailure vector f e
  unfold Machine.specifierFailure
  split
  · exact h.withVectorOperands _ _ fun _ _ => hfail true
  · exact h.withOperands _ _ _ fun _ _ _ => hfail false
  · exact h.withOperands _ _ _ fun _ _ _ => hfail false
  · exact hfail false

theorem Legal.execIllegal {s : State} (h : Legal s) (op : Byte) : AnswersLegal (execIllegal op s) := by
  unfold Machine.execIllegal
  split
  · exact h.takeException _
  · simp only
    split
    · exact .ite _ (answersLegal_refused _) (h.execIvo _ _)
    · exact .ite _ (answersLegal_refused _) (h.specifierFailure _ _)

theorem Legal.fetchDecode {s : State} (h : Legal s) {o : Out} (ho : fetchDecode s = .out o) : AnswersLegal o := by
  unfold Machine.fetchDecode at ho
  simp only at ho
  split at ho
  · split at ho
    · cases ho
      exact answersLegal_refused _
    · split at ho <;> cases ho
      · exact h.execIllegal _
      · exact h.specifierFailure _ _
  · split at ho
    · cases ho
      exact answersLegal_refused _
    · split at ho <;> cases ho

/-- Settles O3: what comes before the instruction keeps the invariant, and so does each outcome of fetching. -/
theorem stepKeepsInvariant : Obligations.StepKeepsInvariant := by
  intro s t h hst
  obtain ⟨u, hu, ht⟩ := step_cases hst
  have hlegal := h.advance u hu
  rcases ht with ⟨i, -, ht⟩ | ⟨i, -, ht⟩ | ht
  · exact hlegal.exec i t ht
  · exact hlegal.execScalar i t ht
  · exact hlegal.fetchDecode ht t rfl

end Sys2Proof.Machine
end

section
/-! What a vector instruction leaves alone of the system: until it completes the registers of the system, the PC and the PSL
are those of its issue, so that an exception that it takes saves its own PC and PSL (R29, R160, R402, R440). -/

namespace Sys2Proof.Machine

/-- What no vector instruction changes, and the PC and the PSL that an exception saves. -/
structure Caller where
  pc : Long
  psl : Long
  scbb : Long
  mapen : Bool
  mm : MmRegs
  copies : MmRegs
  vsar : Long

def State.caller (s : State) : Caller := ⟨s.cpu.pc, s.cpu.psl, s.cpu.scbb, s.cpu.mapen, s.cpu.mm, s.vp.mm, s.vp.vsar⟩

/-- Every next state that `o` may be has the caller of `s`. -/
def AnswersCaller (s : State) (o : Out) : Prop := ∀ t, o = .next t → t.caller = s.caller

/-- A next state after a whole instruction: the PC alone has moved, or an exception has been taken on its own PC and PSL. -/
def AnswersSystem (s : State) (o : Out) : Prop :=
  ∀ t, o = .next t → t.caller = { s.caller with pc := t.cpu.pc } ∨ ∃ e u, takeException e u = .next t ∧ u.caller = s.caller

theorem answersCaller_next (s : State) : AnswersCaller s (.next s) := by
  rintro _ ⟨⟩
  rfl

theorem AnswersSystem.done {s t : State} (h : t.caller = { s.caller with pc := t.cpu.pc }) : AnswersSystem s (.next t) := by
  rintro _ ⟨⟩
  exact .inl h

theorem answersSystem_refused (s : State) (r : Refusal) : AnswersSystem s (.refused r) := by
  rintro _ ⟨⟩

theorem takeException_answersSystem {s u : State} (h : u.caller = s.caller) (e : Exc) : AnswersSystem s (takeException e u) :=
  fun _ ht => .inr ⟨e, u, ht, h⟩

/-- What is said of a state with the same caller. -/
theorem AnswersSystem.of_caller {s u : State} {o : Out} (h : u.caller = s.caller) (ho : AnswersSystem u o) : AnswersSystem s o :=
  fun t ht => (ho t ht).imp (fun hd => by rw [hd, h]) fun ⟨e, x, hx, hc⟩ => ⟨e, x, hx, hc.trans h⟩

theorem AnswersCaller.andThenSystem {s : State} {o : Out} {f : State → Out} (ho : AnswersCaller s o)
    (hf : ∀ u, AnswersSystem u (f u)) : AnswersSystem s (andThen o f) := by
  intro t ht
  obtain ⟨u, hu, hut⟩ := (andThen_eq_next _ _ _).mp ht
  exact (hf u).of_caller (ho u hu) t hut

theorem AnswersCaller.andThen {s : State} {o : Out} {f : State → Out} (ho : AnswersCaller s o)
    (hf : ∀ u, AnswersCaller u (f u)) : AnswersCaller s (andThen o f) := by
  intro t ht
  obtain ⟨u, hu, hut⟩ := (andThen_eq_next _ _ _).mp ht
  exact (hf u t hut).trans (ho u hu)

/-! ### Updates -/

theorem OnlyMoves.caller {s t : State} (h : OnlyMoves s t) : t.caller = s.caller := by
  rw [h]
  rfl

theorem RegistersOnly.caller {s t : State} (h : RegistersOnly s t) : t.caller = s.caller := by
  rw [h]
  rfl

theorem prompt_caller (s : State) : s.prompt.caller = s.caller := by
  unfold State.prompt
  split <;> rfl

theorem writeDest_caller (d : Operand) (v : Long) (s : State) : (writeDest d v s).caller = s.caller := by
  rw [writeDest_keeps]
  rfl

theorem setVp_retire_caller (s : State) (p : Vp) (hm : p.mm = s.vp.mm) (hv : p.vsar = s.vp.vsar) :
    (s.setVp p.retire).caller = s.caller := by
  obtain ⟨q, -, hp⟩ := retire_frame p
  rw [hp, State.caller, State.caller, State.setVp_vp, hm, hv]
  rfl

theorem putEntry_caller (s : State) (k : Nat) (e : QEntry) : (s.putEntry k e).caller = s.caller :=
  setVp_retire_caller s _ rfl rfl

theorem suspend_caller (k : Nat) (w : View) (e : QEntry) (f : MmFault) (s : State) : (suspend k w e f s).caller = s.caller := by
  obtain ⟨v, e', h⟩ := suspend_eq k w e f s
  rw [h]
  rfl

theorem operate_caller (k : Nat) (w : View) (e : QEntry) (m : Quad) (s : State) : (operate k w e m s).caller = s.caller := by
  refine (putEntry_caller _ _ _).trans ?_
  rw [Vp.recordAex_frame]
  rfl

theorem retrySuspended_caller (s : State) : (retrySuspended s).caller = s.caller := by
  unfold retrySuspended
  split <;> rfl

/-! ### Executing elements and waiting -/

theorem runElems_answersCaller (k : Nat) (m : Quad) (part : Option Nat) (s : State) :
    AnswersCaller s (runElems k m part s) := by
  intro t ht
  rcases runElems_cases k m part s t ht with rfl | ⟨e, -, ⟨-, now, rfl⟩ | ⟨-, s', hs', e', -, rfl | ⟨f, rfl⟩⟩⟩
  · rfl
  · exact operate_caller _ _ _ _ _
  · exact (putEntry_caller _ _ _).trans hs'.caller
  · exact (suspend_caller _ _ _ _ _).trans hs'.caller

theorem checkEntry_answersCaller (k : Nat) (s : State) : AnswersCaller s (checkEntry k s) := by
  intro t ht
  rcases checkEntry_cases k s t ht with rfl | ⟨e, -, -, s', hs', ⟨l, x, rfl⟩ | ⟨f, rfl⟩⟩
  · rfl
  · exact (putEntry_caller _ _ _).trans hs'.caller
  · exact (suspend_caller _ _ _ _ _).trans hs'.caller

theorem runEntry_answersCaller (k : Nat) (elems : Option Quad) (part : Option Nat) (s : State) :
    AnswersCaller s (runEntry k elems part s) := by
  unfold runEntry
  split
  · exact answersCaller_next s
  · split
    · exact runElems_answersCaller k _ part (s.startTo k)
    · exact answersCaller_next s

/-- What happens while an instruction waits is no report of a hardware error. -/
theorem happen_answersCaller {ev : Event} (hd : ev.duringWait = true) (s : State) : AnswersCaller s (happen ev s) := by
  intro t ht
  cases ev with
  | run k elems part => exact runEntry_answersCaller k elems part s t ht
  | scalarVisible j | vectorVisible j =>
    simp only [happen] at ht
    split at ht <;> cases ht <;> rfl
  | hardwareError memory stops => cases ht; rfl
  | visibleAtRead | venFollows | venStale | clearTakesEffect | hardwareReport => cases hd

/-! Starting an entry, executing elements and checking references, in the form that the lemmas about waits ask for. -/

theorem startTo_keepsCaller (s : State) (k : Nat) (u : State) (h : u.caller = s.caller) : (u.startTo k).caller = s.caller := h

theorem runElems_keepsCaller (s : State) (k : Nat) (m : Quad) (u t : State) (h : u.caller = s.caller)
    (ht : runElems k m none u = .next t) : t.caller = s.caller :=
  (runElems_answersCaller k m none u t ht).trans h

theorem checkEntry_keepsCaller (s : State) (k : Nat) (u t : State) (h : u.caller = s.caller)
    (ht : checkEntry k u = .next t) : t.caller = s.caller :=
  (checkEntry_answersCaller k u t ht).trans h

theorem drain_answersCaller (s : State) : AnswersCaller s (drain s) :=
  fun _ => drain_keeps (fun u => u.caller = s.caller) (startTo_keepsCaller s) (runElems_keepsCaller s) rfl

theorem pursue_answersCaller (stop : State → Bool) (goal : State → Goal) (s : State) : AnswersCaller s (pursue stop goal s) :=
  fun _ => pursue_keeps (fun u => u.caller = s.caller) (startTo_keepsCaller s) (runElems_keepsCaller s) (checkEntry_keepsCaller s)
    stop goal rfl

theorem whileRetrying_answersCaller (s : State) : AnswersCaller s (whileRetrying s) :=
  fun _ => whileRetrying_keeps (fun u => u.caller = s.caller) (fun _ _ hu => hu)
    (fun _ hd u t hu ht => (happen_answersCaller hd u t ht).trans hu) rfl

theorem makeRoom_answersCaller (s : State) : AnswersCaller s (makeRoom s) := by
  unfold makeRoom
  split
  · exact (whileRetrying_answersCaller s).andThen fun u _ =>
      makeRoomFuel_keeps (fun x => x.caller = u.caller) (startTo_keepsCaller u) (runElems_keepsCaller u) rfl
  · exact answersCaller_next s

theorem readyToSend_answersCaller (s : State) : AnswersCaller s (readyToSend s) :=
  fun t ht => (makeRoom_answersCaller _ t ht).trans (retrySuspended_caller s)

theorem idleAtFault_answersCaller (fn : MfvpFn) (may : Quad) (s : State) : AnswersCaller s (idleAtFault fn may s) := by
  unfold idleAtFault
  split
  · exact answersCaller_next s
  all_goals
    split
    · exact drain_answersCaller s.spend
    · exact answersCaller_next s

theorem settle_answersCaller (s : State) : AnswersCaller s (settle s) := by
  unfold settle
  split
  · exact (drain_answersCaller s).andThen fun u => answersCaller_next u.flushVector
  · exact answersCaller_next s

/-! ### Exceptions and the end of an instruction -/

theorem takeBlocked_answersSystem (orig s : State) : AnswersSystem s (takeBlocked orig s) := by
  unfold takeBlocked
  simp only
  split
  · exact takeException_answersSystem rfl _
  · split
    · exact takeException_answersSystem rfl _
    · refine takeException_answersSystem ?_ _
      split
      · unfold reportImp
        split <;> rfl
      · rfl

theorem turnedAway_answersSystem {s : State} {out : Out} (h : turnedAway s = some out) : AnswersSystem s out := by
  unfold turnedAway at h
  split_ifs at h <;> cases h
  · exact takeException_answersSystem rfl _
  · exact takeException_answersSystem rfl _
  · exact takeException_answersSystem rfl _
  · exact answersSystem_refused _ _

theorem enqueue_caller (e : QEntry) (next : Long) (s : State) : (enqueue e next s).caller = { s.caller with pc := next } :=
  setVp_retire_caller (s.setPc next) { s.vp with queue := s.vp.queue ++ [e] } rfl rfl

theorem settle_enqueue_answersSystem (e : QEntry) (next : Long) (s : State) : AnswersSystem s (settle (enqueue e next s)) := by
  intro t ht
  have h := (settle_answersCaller _ t ht).trans (enqueue_caller e next s)
  have hpc : t.cpu.pc = next := congrArg Caller.pc h
  exact .inl (hpc ▸ h)

theorem spoil_caller (sz : ElemSize) (ad : Addressing) (store : Bool) (w : View) (e : QEntry) (oks : List (Nat × Nat))
    (s : State) : (spoil sz ad store w e oks s).caller = s.caller := by
  unfold spoil
  split
  · exact setVp_retire_caller _ _ rfl rfl
  · exact setVp_retire_caller _ _ rfl rfl

theorem checkAtIssue_answersSystem (sz : ElemSize) (ad : Addressing) (store : Bool) (e : QEntry) (next : Long)
    (orig s : State) : AnswersSystem s (checkAtIssue sz ad store e next orig s) := by
  refine (pursue_answersCaller _ _ s).andThenSystem fun u => ?_
  split
  · exact takeBlocked_answersSystem orig u
  · simp only
    split
    · exact answersSystem_refused _ _
    · rename_i f s' e' hm
      refine takeException_answersSystem ?_ _
      exact (prompt_caller _).trans ((spoil_caller ..).trans (examine_failed hm).caller)
    · rename_i s' e' hm
      exact (settle_enqueue_answersSystem _ _ _).of_caller (examine_ok hm).1.caller

theorem send_answersSystem (e : QEntry) (next : Long) (orig s : State) : AnswersSystem s (send e next orig s) := by
  unfold send
  split
  · exact takeBlocked_answersSystem orig s
  · simp only
    split
    · exact checkAtIssue_answersSystem _ _ _ _ _ _ s.spend
    · exact settle_enqueue_answersSystem _ _ s.spend

theorem issueOp_answersSystem (op : VOp) (sps : List Spec) (o : Operands) (s : State) :
    AnswersSystem o.state (issueOp op sps o s) := by
  intro t ht
  obtain ⟨-, u, hu, hut⟩ := issueOp_cases ht
  exact (send_answersSystem _ _ s u).of_caller (readyToSend_answersCaller o.state u hu) t hut

theorem withVectorOperands_answersSystem (accs : List Access) (sps : List Spec) (s : State) {f : Operands → Out}
    (hf : ∀ o, o.state.caller = s.caller → AnswersSystem s (f o)) : AnswersSystem s (withVectorOperands accs sps s f) := by
  intro t ht
  rcases withVectorOperands_cases ht with ⟨x, hx⟩ | ⟨o, ho, hft⟩
  · exact .inr ⟨x, s, hx, rfl⟩
  · exact hf o (evalOperands_frame _ _ _ _ _ ho).caller t hft

theorem issue_answersSystem (op : VOp) (sps : List Spec) (s : State) : AnswersSystem s (issue op sps s) := by
  refine withVectorOperands_answersSystem _ _ s fun o ho => ?_
  split
  · rename_i h
    exact turnedAway_answersSystem h
  · exact (issueOp_answersSystem op sps o s).of_caller ho

theorem issueByRegnum_answersSystem (accs : List Access) (sel : Word → Option VOp) (sps : List Spec) (s : State) :
    AnswersSystem s (issueByRegnum accs sel sps s) := by
  refine withVectorOperands_answersSystem _ _ s fun o ho => ?_
  split
  · rename_i h
    exact turnedAway_answersSystem h
  · split
    · exact answersSystem_refused _ _
    · exact (issueOp_answersSystem _ sps o s).of_caller ho

theorem finishMfvp_answersSystem (fn : MfvpFn) (o : Operands) (orig s : State) : AnswersSystem s (finishMfvp fn o orig s) := by
  refine (idleAtFault_answersCaller fn _ s).andThenSystem fun u => ?_
  split
  · exact takeException_answersSystem rfl _
  · split
    · exact takeException_answersSystem rfl _
    · split
      · exact takeBlocked_answersSystem orig u.spend
      · refine AnswersSystem.done (congrArg (fun c : Caller => { c with pc := o.next }) ((writeDest_caller _ _ _).trans ?_))
        split
        · rfl
        · exact prompt_caller u

theorem issueMfvp_answersSystem (sel : Word → Option MfvpFn) (sps : List Spec) (s : State) :
    AnswersSystem s (issueMfvp sel sps s) := by
  refine withVectorOperands_answersSystem _ _ s fun o ho => ?_
  split
  · rename_i h
    exact turnedAway_answersSystem h
  · split
    · exact answersSystem_refused _ _
    · refine AnswersSystem.of_caller ho ((readyToSend_answersCaller o.state).andThenSystem fun u => ?_)
      split
      · exact takeBlocked_answersSystem s u
      · exact (whileRetrying_answersCaller u).andThenSystem fun v =>
          (pursue_answersCaller _ _ v).andThenSystem fun x => finishMfvp_answersSystem _ o s x

theorem exec_answersSystem (i : Instr) (s : State) : AnswersSystem s (exec i s) := by
  rcases exec_cases i s with ⟨op, sps, h⟩ | ⟨accs, sel, sps, h⟩ | ⟨sel, sps, h⟩ <;> rw [h]
  · exact issue_answersSystem op sps s
  · exact issueByRegnum_answersSystem accs sel sps s
  · exact issueMfvp_answersSystem sel sps s

/-- Settles O38: taking the exception itself changes neither the registers of the system nor the vector processor. -/
theorem systemStateKept : Obligations.SystemStateKept := by
  intro i s t h
  rcases exec_answersSystem i s t h with hc | ⟨e, u, hu, hc⟩
  · simp only [State.caller, Caller.mk.injEq] at hc
    obtain ⟨-, hpsl, hscbb, hmapen, hmm, hcopies, hvsar⟩ := hc
    exact ⟨hscbb, hmapen, hmm, hcopies, hvsar, .inl hpsl⟩
  · obtain ⟨ht, hcpu⟩ := takeException_keeps hu
    simp only [State.caller, Caller.mk.injEq] at hc
    obtain ⟨hpc, hpsl, hscbb, hmapen, hmm, hcopies, hvsar⟩ := hc
    have hvp : t.vp = u.vp := by rw [ht]
    rw [hvp, hcpu]
    exact ⟨hscbb, hmapen, hmm, hcopies, hvsar, .inr ⟨e, u, hu, hpc, hpsl⟩⟩

end Sys2Proof.Machine
end

section
/-! What the spec tells a model to refuse (R25, R141, R142, R145, R146, R233, R311, R336, R366, R93). -/

namespace Sys2Proof.Machine

/-! ### Which issue an instruction is -/

/-- An instruction that takes a control word is issued as what the list says it stands for. -/
theorem exec_lengthForm {c b x : Spec} {i : Instr} {op : VOp} {sps : List Spec} (h : (i, op, sps) ∈ lengthForms c b x) (s : State) :
    exec i s = issue op sps s ∧ op.usesLength = true := by
  have hall : ∀ y ∈ lengthForms c b x, exec y.1 s = issue y.2.1 y.2.2 s ∧ y.2.1.usesLength = true := by
    simp only [lengthForms, List.forall_mem_append, List.forall_mem_map, integerForms, logicalForms, shiftForms, floatForms,
      integerCompareForms, floatCompareForms, convertForms, mergeForms, loadForms, storeForms, List.forall_mem_cons,
      List.not_mem_nil, false_imp_iff, implies_true, and_true]
    and_intros <;> rfl
  exact hall _ h

/-- Every instruction evaluates its own operands, and goes on by its operation, by its register number, or as an MFVP. -/
theorem exec_operands (i : Instr) (s : State) :
    (∃ op, op.accesses = i.accesses ∧ exec i s = issue op i.operands s) ∨
      (∃ sel, exec i s = issueByRegnum i.accesses sel i.operands s) ∨
      ∃ sel, i.accesses = [.rw, .wl] ∧ exec i s = issueMfvp sel i.operands s := by
  cases i
  case mfvp | mfvcr | mfvlr | mfvmrlo | mfvmrhi | sync | msync =>
    simp only [exec, execMfvp, execMfvcr, execMfvlr, execMfvmrlo, execMfvmrhi, execSync, execMsync]
    exact .inr (.inr ⟨_, rfl, rfl⟩)
  case mtvp | vsync =>
    simp only [exec, execMtvp, execVsync]
    exact .inr (.inl ⟨_, rfl⟩)
  all_goals exact .inl ⟨_, rfl, rfl⟩

/-- An instruction whose operands are evaluated and that a test turns away (R171). -/
theorem exec_turnedAway {i : Instr} {s : State} {o : Operands} {out : Out}
    (ho : evalOperands 2 i.accesses i.operands s = .ok o) (ht : turnedAway s = some out) : exec i s = out := by
  rcases exec_operands i s with ⟨op, ha, h⟩ | ⟨sel, h⟩ | ⟨sel, ha, h⟩ <;> rw [h]
  · simp only [issue, withVectorOperands, ha, ho, ht]
  · simp only [issueByRegnum, withVectorOperands, ho, ht]
  · rw [ha] at ho
    simp only [issueMfvp, withVectorOperands, ho, ht]

/-! ### Control words -/

/-- The mask of a field of the control word. -/
def fieldMask (start len : Nat) : Word := (BitVec.allOnes len).zeroExtend 16 <<< start

theorem getLsbD_fieldMask {start len : Nat} (h : start + len ≤ 16) (i : Nat) :
    (fieldMask start len).getLsbD i = true ↔ start ≤ i ∧ i < start + len := by
  rw [fieldMask, BitVec.getLsbD_shiftLeft, BitVec.getLsbD_setWidth, BitVec.getLsbD_allOnes]
  simp
  omega

theorem and_ne_zero_iff (c m : Word) : c &&& m ≠ 0 ↔ ∃ i, c.getLsbD i = true ∧ m.getLsbD i = true := by
  constructor
  · intro h
    by_contra hno
    refine h (BitVec.eq_of_getLsbD_eq fun i _ => ?_)
    have hi : ¬(c.getLsbD i = true ∧ m.getLsbD i = true) := fun hi => hno ⟨i, hi⟩
    simpa [Decidable.imp_iff_not_or] using hi
  · rintro ⟨i, hc, hm⟩ h
    have hbit := congrArg (·.getLsbD i) h
    simp [hc, hm] at hbit

/-- A field of the control word is nonzero where its mask finds a bit. -/
theorem field_ne_zero_iff (c : Word) {start len : Nat} {m : Word} (hm : m = fieldMask start len) (h : start + len ≤ 16) :
    c.extractLsb' start len ≠ 0 ↔ c &&& m ≠ 0 := by
  rw [and_ne_zero_iff, hm]
  simp only [getLsbD_fieldMask h]
  constructor
  · intro hne
    by_contra hno
    refine hne (BitVec.eq_of_getLsbD_eq fun i hi => ?_)
    have hc : c.getLsbD (start + i) = false := Bool.eq_false_iff.mpr fun hc => hno ⟨start + i, hc, by omega, by omega⟩
    simp [hc]
  · rintro ⟨i, hc, hs, hl⟩ h0
    have hbit := congrArg (·.getLsbD (i - start)) h0
    simp [Nat.add_sub_cancel' hs, hc] at hbit
    omega

theorem bit_iff (c : Word) {n : Nat} {m : Word} (hm : m = fieldMask n 1) (h : n < 16) : c.getLsbD n = true ↔ c &&& m ≠ 0 := by
  rw [and_ne_zero_iff, hm]
  simp only [getLsbD_fieldMask (show n + 1 ≤ 16 by omega)]
  constructor
  · exact fun hc => ⟨n, hc, by omega, by omega⟩
  · rintro ⟨i, hc, hs, hl⟩
    obtain rfl : i = n := by omega
    exact hc

theorem or_masks_iff (c : Word) {m a b : Word} (hm : m = a ||| b) : c &&& a ≠ 0 ∨ c &&& b ≠ 0 ↔ c &&& m ≠ 0 := by
  simp only [and_ne_zero_iff, hm, BitVec.getLsbD_or, Bool.or_eq_true]
  grind

/-- The bits that should be zero, as one mask (R141). -/
theorem shouldBeZero_iff (op : VOp) (c : Word) : ShouldBeZero op c ↔ c &&& zeroBits op ≠ 0 := by
  match op with
  | .load _ .strided => exact field_ne_zero_iff (start := 4) (len := 9) c rfl (by decide)
  | .store _ .strided => exact field_ne_zero_iff (start := 4) (len := 10) c rfl (by decide)
  | .load _ .indexed | .intArith _ .vs | .floatArith _ _ .vs =>
    exact field_ne_zero_iff (start := 8) (len := 5) c rfl (by decide)
  | .store _ .indexed | .logical _ .vs | .shift _ .vs => exact field_ne_zero_iff (start := 8) (len := 6) c rfl (by decide)
  | .intArith _ .vv | .floatArith _ _ .vv | .convert => exact bit_iff (n := 12) c rfl (by decide)
  | .logical _ .vv | .shift _ .vv => exact field_ne_zero_iff (start := 12) (len := 2) c rfl (by decide)
  | .intCompare .vv =>
    exact (or_congr (bit_iff (n := 3) (m := 0x0008) c rfl (by decide))
      (field_ne_zero_iff (start := 12) (len := 2) (m := 0x3000) c rfl (by decide))).trans (or_masks_iff c rfl)
  | .floatCompare _ .vv =>
    exact (or_congr (bit_iff (n := 3) (m := 0x0008) c rfl (by decide))
      (bit_iff (n := 12) (m := 0x1000) c rfl (by decide))).trans (or_masks_iff c rfl)
  | .merge .vv =>
    exact (or_congr (field_ne_zero_iff (start := 12) (len := 2) (m := 0x3000) c rfl (by decide))
      (bit_iff (n := 15) (m := 0x8000) c rfl (by decide))).trans (or_masks_iff c rfl)
  | .intCompare .vs =>
    exact (or_congr (bit_iff (n := 3) (m := 0x0008) c rfl (by decide))
      (field_ne_zero_iff (start := 8) (len := 6) (m := 0x3F00) c rfl (by decide))).trans (or_masks_iff c rfl)
  | .floatCompare _ .vs =>
    exact (or_congr (bit_iff (n := 3) (m := 0x0008) c rfl (by decide))
      (field_ne_zero_iff (start := 8) (len := 5) (m := 0x1F00) c rfl (by decide))).trans (or_masks_iff c rfl)
  | .merge .vs =>
    exact (or_congr (field_ne_zero_iff (start := 8) (len := 6) (m := 0x3F00) c rfl (by decide))
      (bit_iff (n := 15) (m := 0x8000) c rfl (by decide))).trans (or_masks_iff c rfl)
  | .iota =>
    exact (or_congr (field_ne_zero_iff (start := 4) (len := 10) (m := 0x3FF0) c rfl (by decide))
      (bit_iff (n := 15) (m := 0x8000) c rfl (by decide))).trans (or_masks_iff c rfl)
  | .mtvp _ | .vsync | .undefine _ => simp [ShouldBeZero, zeroBits]

/-! ### What is refused -/

theorem compareFn_eq_iff (c : Word) : (compareFn c = 3 ∨ compareFn c = 7) ↔ c.toNat % 8 ∈ [3, 7] := by
  have h : (compareFn c).toNat = c.toNat % 8 := by simp [compareFn]
  rw [← BitVec.toNat_inj, ← BitVec.toNat_inj, h]
  simp

theorem convertFn_eq_iff (c : Word) :
    (fieldA c = 0 ∨ fieldA c = 11 ∨ fieldA c = 14) ↔ c.toNat / 2 ^ 8 % 16 ∈ [0, 11, 14] := by
  have h : (fieldA c).toNat = c.toNat / 2 ^ 8 % 16 := by simp [fieldA, Nat.shiftRight_eq_div_pow]
  rw [← BitVec.toNat_inj, ← BitVec.toNat_inj, ← BitVec.toNat_inj, h]
  simp

theorem secondSpec_isLiteral (sps : List Spec) :
    secondSpec Spec.isLiteral sps = true ↔ ∃ v, sps[1]? = some (.literal v) := by
  unfold secondSpec
  cases sps[1]? with
  | none => simp
  | some sp => cases sp <;> simp [Spec.isLiteral]

theorem secondSpec_isImmediate (sps : List Spec) :
    secondSpec Spec.isImmediate sps = true ↔ ∃ v, sps[1]? = some (.immediate v) := by
  unfold secondSpec
  cases sps[1]? with
  | none => simp
  | some sp => cases sp <;> simp [Spec.isImmediate]

theorem floatScalar_iff (op : VOp) :
    op.floatScalar = true ↔ ∃ t op', op = .floatArith t op' .vs ∨ op = .floatCompare t .vs := by
  constructor
  · intro h
    match op with
    | .floatArith t op' .vs => exact ⟨t, op', .inl rfl⟩
    | .floatCompare t .vs => exact ⟨t, .add, .inr rfl⟩
  · rintro ⟨t, op', rfl | rfl⟩ <;> rfl

/-- The refusals of a control word, of its literal operand and of its base. -/
def staticRefusals : List Refusal :=
  [.controlWord, .reservedCompare, .reservedConvert, .shortLiteralFloat, .immediateBase]

/-- The part of `staticStop` that looks at the function in the control word and at the source of MTVP. -/
def functionStop (op : VOp) (c : Word) (x : Quad) : Option Refusal :=
  match op with
  | .intCompare _ | .floatCompare .. => if compareFn c = 3 ∨ compareFn c = 7 then some .reservedCompare else none
  | .convert => if fieldA c = 0 ∨ fieldA c = 11 ∨ fieldA c = 14 then some .reservedConvert else none
  | .mtvp .vlr | .mtvp .vcr => if x.lo.toNat < 128 then none else some .mtvpHighBits
  | _ => none

/-- The stops in their order: the literal, the base, the bits that should be zero, the function. -/
theorem staticStop_eq (op : VOp) (sps : List Spec) (c : Word) (x : Quad) :
    staticStop op sps c x =
      if op.floatScalar = true ∧ secondSpec Spec.isLiteral sps = true then some .shortLiteralFloat
      else if op.isMemory = true ∧ secondSpec Spec.isImmediate sps = true then some .immediateBase
      else if c &&& zeroBits op ≠ 0 then some .controlWord
      else functionStop op c x := by
  simp only [staticStop, Bool.and_eq_true, Bool.or_eq_true, decide_eq_true_eq, or_assoc]
  rfl

/-- Compare functions 3 and 7, convert functions 0, 11 and 14 (R233, R311, R336). -/
def ReservedFunction (op : VOp) (c : Word) : Prop :=
  (op.writesMask = true ∧ c.toNat % 8 ∈ [3, 7]) ∨ (op = .convert ∧ c.toNat / 2 ^ 8 % 16 ∈ [0, 11, 14])

theorem functionStop_cases {op : VOp} (hu : op.usesLength = true) (c : Word) (x : Quad) :
    (ReservedFunction op c ∧ ∃ r ∈ staticRefusals, functionStop op c x = some r) ∨
      (¬ ReservedFunction op c ∧ functionStop op c x = none) := by
  have hother (hm : op.writesMask = false) (hc : op ≠ .convert) : ¬ ReservedFunction op c := by
    rintro (⟨h, -⟩ | ⟨h, -⟩)
    exacts [Bool.noConfusion (hm.symm.trans h), hc h]
  match op with
  | .intCompare _ | .floatCompare .. =>
    by_cases h : compareFn c = 3 ∨ compareFn c = 7
    · exact .inl ⟨.inl ⟨rfl, (compareFn_eq_iff c).mp h⟩, .reservedCompare, by decide, if_pos h⟩
    · refine .inr ⟨?_, if_neg h⟩
      rintro (⟨-, hf⟩ | ⟨hop, -⟩)
      exacts [h ((compareFn_eq_iff c).mpr hf), VOp.noConfusion hop]
  | .convert =>
    by_cases h : fieldA c = 0 ∨ fieldA c = 11 ∨ fieldA c = 14
    · exact .inl ⟨.inr ⟨rfl, (convertFn_eq_iff c).mp h⟩, .reservedConvert, by decide, if_pos h⟩
    · refine .inr ⟨?_, if_neg h⟩
      rintro (⟨hm, -⟩ | ⟨-, hf⟩)
      exacts [Bool.noConfusion hm, h ((convertFn_eq_iff c).mpr hf)]
  | .mtvp _ | .vsync | .undefine _ => cases hu
  | .intArith .. | .logical .. | .shift .. | .floatArith .. | .merge _ | .iota | .load .. | .store .. =>
    exact .inr ⟨hother rfl VOp.noConfusion, rfl⟩

/-- What the spec gives no results for is refused by a name of the list, and nothing else is (R142, R145, R146, R233, R336). -/
theorem staticStop_cases {op : VOp} (hu : op.usesLength = true) (sps : List Spec) (c : Word) (x : Quad) :
    (Meaningless op sps c ∧ ∃ r ∈ staticRefusals, staticStop op sps c x = some r) ∨
      (¬ Meaningless op sps c ∧ staticStop op sps c x = none) := by
  have hmeaning : Meaningless op sps c ↔
      (op.floatScalar = true ∧ secondSpec Spec.isLiteral sps = true) ∨
        (op.isMemory = true ∧ secondSpec Spec.isImmediate sps = true) ∨ c &&& zeroBits op ≠ 0 ∨ ReservedFunction op c := by
    rw [floatScalar_iff, secondSpec_isLiteral, secondSpec_isImmediate, ← shouldBeZero_iff, Meaningless, ReservedFunction]
    constructor
    · rintro (h | h | h | h | h)
      exacts [.inr (.inr (.inl h)), .inr (.inr (.inr (.inl h))), .inr (.inr (.inr (.inr h))), .inl h, .inr (.inl h)]
    · rintro (h | h | h | h | h)
      exacts [.inr (.inr (.inr (.inl h))), .inr (.inr (.inr (.inr h))), .inl h, .inr (.inl h), .inr (.inr (.inl h))]
  rw [hmeaning, staticStop_eq]
  split_ifs with hlit himm hzero
  · exact .inl ⟨.inl hlit, _, by decide, rfl⟩
  · exact .inl ⟨.inr (.inl himm), _, by decide, rfl⟩
  · exact .inl ⟨.inr (.inr (.inl hzero)), _, by decide, rfl⟩
  · simp only [hlit, himm, hzero, false_or]
    exact functionStop_cases hu c x

/-- A test of the issue passed, an instruction is refused by what it shows alone, or by the vector length (R25). -/
theorem issue_refused {op : VOp} {sps : List Spec} {s : State} {o : Operands} {r : Refusal}
    (ho : evalOperands 2 op.accesses sps s = .ok o) (hi : Issuable s) (hr : refusalOf op sps (entryOf op o s) = some r) :
    issue op sps s = .refused r := by
  simp only [issue, withVectorOperands, ho, turnedAway_none s hi, issueOp, hr]

theorem entryOf_cntrl {op : VOp} (hu : op.usesLength = true) (o : Operands) (s : State) :
    (entryOf op o s).cntrl = controlWord o := if_pos hu

theorem entryOf_len {op : VOp} (hu : op.usesLength = true) (o : Operands) (s : State) :
    (entryOf op o s).len = currentLength s.vp := if_pos hu

/-- Where no MTVLR is pending an instruction uses VLR as it is (R189). -/
theorem currentLength_of_no_mtvlr {p : Vp} (h : ∀ e ∈ p.queue, e.op ≠ .mtvp .vlr) : currentLength p = p.vlr := by
  unfold currentLength
  generalize p.vlr = l
  generalize p.queue = q at h
  induction q with
  | nil => rfl
  | cons e q ih =>
    obtain ⟨he, hq⟩ := List.forall_mem_cons.mp h
    rw [List.foldl_cons]
    split
    · rename_i hop
      exact absurd hop he
    · exact ih hq

/-- Settles O44: once nothing turns the instruction away, issue is decided by `staticStop`, then by the length; the register
numbers and VSYNC are looked at by their own issue, and memory management by the tests before. -/
theorem refusedByTheSpec : Obligations.RefusedByTheSpec := by
  refine ⟨fun c b x i op sps s o hmem ho hi => ?_, fun c b x i op sps s o hmem ho hi ha hq hl => ?_,
    fun a b s o ho hi hn => ?_, fun a b s o ho hi hn => ?_, fun a s o ho hi hn => ?_, fun i s o ho hp hv hpmf hm => ?_⟩
  · obtain ⟨hexec, hu⟩ := exec_lengthForm hmem s
    rw [hexec, Acceptable, entryOf_cntrl hu]
    rcases staticStop_cases hu sps (controlWord o) (entryOf op o s).scalar with ⟨hm, r, hr, hstop⟩ | ⟨hm, hstop⟩
    · refine ⟨fun _ => ⟨r, hr, issue_refused ho hi ?_⟩, fun hn => absurd hm hn⟩
      rw [refusalOf, entryOf_cntrl hu, hstop]
    · exact ⟨fun hm' => absurd hm' hm, fun _ => hstop⟩
  · obtain ⟨hexec, hu⟩ := exec_lengthForm hmem s
    rw [hexec]
    refine issue_refused ho hi ?_
    rw [refusalOf, ha, entryOf_len hu, currentLength_of_no_mtvlr hq]
    exact if_pos hl
  · simp only [exec, execMtvp, issueByRegnum, withVectorOperands, ho, turnedAway_none s hi, hn, Option.map_none]
  · simp only [exec, execMfvp, issueMfvp, withVectorOperands, ho, turnedAway_none s hi, hn]
  · simp only [exec, execVsync, issueByRegnum, withVectorOperands, ho, turnedAway_none s hi, if_neg hn]
  · refine exec_turnedAway ho ?_
    simp [turnedAway, hp, hv, hpmf, hm]

end Sys2Proof.Machine
end

section
/-! Reset, and what MFPR delivers: the destination, the condition codes, and the registers VPSR, VAER and VSAR. -/

namespace Sys2Proof.Machine

/-! ### Reset -/

/-- Settles O1: each value is the one that the reset state names; nothing pending, nothing is busy. -/
theorem resetState : Obligations.ResetState := by
  have hbusy : busy State.reset = false := rfl
  refine ⟨rfl, rfl, rfl, rfl, rfl, rfl, rfl, rfl, rfl, rfl, rfl, rfl, rfl, rfl, rfl, hbusy, ?_⟩
  rw [hbusy]
  decide

/-- Settles O2: memory is empty, every register is zero and nothing is pending. -/
theorem resetMeetsInvariant : Obligations.ResetMeetsInvariant := by
  refine (legal_iff _).mpr ⟨rfl, ⟨⟨rfl, rfl, rfl, fun _ => rfl, fun _ => rfl, ?_, fun _ => ⟨rfl, rfl⟩⟩, ?_⟩, ?_⟩
  · exact fun h => Bool.noConfusion h
  · exact fun _ _ h => (List.not_mem_nil h).elim
  · exact fun _ h => (List.not_mem_nil h).elim

/-! ### The condition codes -/

theorem getLsbD_setNZ (psl v : Long) (n : Nat) :
    (setNZ psl v).getLsbD n =
      if n = 1 then false else if n = 2 then decide (v = 0) else if n = 3 then v.msb else psl.getLsbD n := by
  unfold setNZ
  rw [getLsbD_setBit _ (by decide), getLsbD_setBit _ (by decide), getLsbD_setBit _ (by decide)]

/-- The condition codes are no part of what selects the stack (R440). -/
theorem stackIndex_setNZ (psl v : Long) : Scalar.stackIndex (setNZ psl v) = Scalar.stackIndex psl := by
  have hmode : currentMode (setNZ psl v) = currentMode psl := by
    refine BitVec.eq_of_getLsbD_eq fun i hi => ?_
    simp only [currentMode, BitVec.getLsbD_extractLsb', getLsbD_setNZ]
    rw [if_neg (by omega), if_neg (by omega), if_neg (by omega)]
  have hstack : onInterruptStack (setNZ psl v) = onInterruptStack psl := by
    rw [onInterruptStack, getLsbD_setNZ]
    rfl
  simp only [Scalar.stackIndex, hmode, hstack]

/-! ### The destination -/

/-- The younger of two lists of cells hides the older. -/
theorem lastCell_append (xs ys : List Host.Cell) (a : Nat) : lastCell (xs ++ ys) a = (lastCell ys a).or (lastCell xs a) := by
  induction xs with
  | nil => simp [lastCell]
  | cons c xs ih =>
    obtain ⟨x, b⟩ := c
    rw [List.cons_append, lastCell, ih, lastCell]
    cases lastCell ys a <;> rfl

theorem lastCell_cellsAt_none {pas : List Nat} {a : Nat} (h : a ∉ pas) (v : Nat) : lastCell (cellsAt pas v) a = none := by
  induction pas generalizing v with
  | nil => rfl
  | cons x pas ih =>
    obtain ⟨hx, hpas⟩ := List.ne_and_not_mem_of_not_mem_cons h
    rw [cellsAt, lastCell, ih hpas, if_neg (Ne.symm hx)]

/-- Reading back the bytes of a value at distinct addresses, whatever these held before (R82, R101). -/
theorem scalarRead_cellsAt {pas : List Nat} (hn : pas.Nodup) {s : State} {old : Nat → Byte} {v : Nat}
    (hs : ∀ a ∈ pas, s.scalarByte a = (lastCell (cellsAt pas v) a).getD (old a)) : s.scalarRead pas = v % 256 ^ pas.length := by
  induction pas generalizing v with
  | nil => simp [State.scalarRead, Nat.mod_one]
  | cons a pas ih =>
    obtain ⟨ha, hn⟩ := List.nodup_cons.mp hn
    have hfirst : s.scalarByte a = BitVec.ofNat 8 v := by
      rw [hs a List.mem_cons_self, cellsAt, lastCell, lastCell_cellsAt_none ha, if_pos rfl, Option.getD_some]
    have hrest : s.scalarRead pas = v / 256 % 256 ^ pas.length := by
      refine ih hn fun x hx => ?_
      have hne : a ≠ x := fun h => ha (h ▸ hx)
      rw [hs x (List.mem_cons_of_mem _ hx), cellsAt, lastCell, if_neg hne]
      cases lastCell (cellsAt pas (v / 256)) x <;> rfl
    rw [State.scalarRead, hfirst, hrest, List.length_cons, Nat.pow_succ', Nat.mod_mul]
    simp

theorem scalarByte_scalarWrite (s : State) (cs : List Host.Cell) (a : Nat) :
    (s.scalarWrite [cs]).scalarByte a = (lastCell cs a).getD (s.scalarByte a) := by
  rw [State.scalarByte, State.scalarWrite_cpu, State.scalarWrite_mem, List.flatten_append, lastCell_append]
  simp only [List.flatten_cons, List.flatten_nil, List.append_nil, State.scalarByte]
  cases lastCell cs a <;> rfl

/-! ### Destinations in memory are longwords -/

theorem length_scalarTranslateBytes {s : State} {mode : BitVec 2} {write : Bool} {va : Long} {n : Nat} {pas : List Nat}
    (h : scalarTranslateBytes s mode write va n = .ok pas) : pas.length = n := by
  induction n generalizing va pas with
  | zero => cases h; rfl
  | succ n ih =>
    unfold scalarTranslateBytes at h
    split at h
    · cases h
    · split at h <;> cases h
      rename_i hrest
      rw [List.length_cons, ih hrest]

/-- An operand that is a place in memory is a longword's (R9). -/
def Operand.LongPlace (d : Operand) : Prop := ∀ pas, d = .memory pas → pas.length = 4

theorem evalMemory_longPlace {k : Nat} {acc : Access} {g : Gathered Long} {r : Gathered Operand}
    (h : evalMemory k acc g = .ok r) : r.result.LongPlace := by
  cases acc <;> simp only [evalMemory] at h
  case wl =>
    obtain ⟨pas, hpas, hr⟩ := Eval.bind_eq_ok _ _ _ h
    cases hr
    rintro _ ⟨⟩
    cases htr : scalarTranslateBytes g.state g.state.mode true g.result 4 with
    | error f => rw [htr] at hpas; cases hpas
    | ok l =>
      rw [htr] at hpas
      cases hpas
      exact length_scalarTranslateBytes htr
  case ab => cases h; rintro _ ⟨⟩
  all_goals
    obtain ⟨x, _, hr⟩ := Eval.bind_eq_ok _ _ _ h
    cases hr
    rintro _ ⟨⟩

theorem evalSpec_longPlace {k : Nat} {acc : Access} {m : List RegNo} {sp : Spec} {c : Long} {s : State} {g : Gathered Operand}
    (h : evalSpec k acc m sp c s = .ok g) : g.result.LongPlace := by
  cases sp with
  | literal v => cases acc <;> cases h <;> rintro _ ⟨⟩
  | immediate v => cases acc <;> cases h <;> rintro _ ⟨⟩
  | reg n =>
    cases acc <;> simp only [evalSpec] at h
    case ab => cases h
    case wl => cases h; rintro _ ⟨⟩
    all_goals
      split at h <;> cases h
      · rintro _ ⟨⟩
      · unfold registerValue
        simp only
        split
        · split <;> rintro _ ⟨⟩
        · rintro _ ⟨⟩
  | mem b | indexed x b =>
    obtain ⟨g', _, hr⟩ := Eval.bind_eq_ok _ _ _ h
    exact evalMemory_longPlace hr

theorem evalSpecs_longPlace {m : List RegNo} {k : Nat} {accs : List Access} {sps : List Spec} {c : Long} {s : State}
    {g : Gathered (List Operand × Long)} (h : evalSpecs m k accs sps c s = .ok g) : ∀ d ∈ g.result.1, d.LongPlace := by
  induction accs generalizing k sps c s g with
  | nil => cases sps <;> (cases h; exact fun _ hd => (List.not_mem_nil hd).elim)
  | cons a as ih =>
    cases sps with
    | nil => cases h; exact fun _ hd => (List.not_mem_nil hd).elim
    | cons sp sps =>
      obtain ⟨x, hx, hr⟩ := Eval.bind_eq_ok _ _ _ h
      obtain ⟨y, hy, hz⟩ := Eval.bind_eq_ok _ _ _ hr
      cases hz
      exact List.forall_mem_cons.mpr ⟨evalSpec_longPlace hx, ih (g := y) hy⟩

theorem dest_longPlace {header : Nat} {accs : List Access} {sps : List Spec} {s : State} {o : Operands}
    (h : evalOperands header accs sps s = .ok o) (k : Nat) : (o.dest k).LongPlace := by
  obtain ⟨g, hg, hr⟩ := Eval.bind_eq_ok _ _ _ h
  cases hr
  unfold Operands.dest
  cases hk : g.result.1[k]? with
  | none => rintro _ ⟨⟩
  | some d => exact evalSpecs_longPlace hg d (List.mem_of_getElem? hk)

/-! ### The end of an MFPR -/

/-- What an MFPR that answers `v` leaves: the destination, the condition codes, the PC. -/
def delivered (v : Long) (o : Operands) (u : State) : State := finishIpr v o.next (writeDest (o.dest 1) v u)

section
variable (v : Long) (o : Operands) (u : State)

theorem delivered_frame : delivered v o u = { u with
    cpu := { u.cpu with
      gpr := (delivered v o u).cpu.gpr, sps := (delivered v o u).cpu.sps, wbuf := (delivered v o u).cpu.wbuf
      psl := setNZ u.cpu.psl v, pc := o.next } } := by
  rw [delivered, writeDest_keeps]
  rfl

theorem readReg_setNZ (c : Scalar) (pc : Long) (n : RegNo) (cursor : Long) :
    ({ c with psl := setNZ c.psl v, pc := pc } : Scalar).readReg n cursor = c.readReg n cursor := by
  unfold Scalar.readReg
  simp only [stackIndex_setNZ]

theorem delivered_register {n : RegNo} (hd : o.dest 1 = .register n) (hn : n ≠ 15) : (delivered v o u).cpu.readReg n 0 = v := by
  rw [delivered, hd]
  exact (readReg_setNZ v _ _ n 0).trans (readReg_writeReg u.cpu n v 0 hn)

theorem delivered_memory {pas : List Nat} (hd : o.dest 1 = .memory pas) (hl : pas.length = 4) (hn : pas.Nodup) :
    (delivered v o u).scalarRead pas = v.toNat := by
  have hbyte (a : Nat) (_ : a ∈ pas) : (delivered v o u).scalarByte a = (lastCell (cellsAt pas v.toNat) a).getD (u.scalarByte a) := by
    rw [delivered, hd]
    exact scalarByte_scalarWrite u _ a
  rw [scalarRead_cellsAt hn hbyte, hl]
  exact Nat.mod_eq_of_lt v.isLt

end

/-! ### MFPR from VPSR, VAER and VSAR -/

/-- Operand evaluation changes nothing that VPSR<BSY> depends on. -/
theorem busy_registersOnly {s t : State} (h : RegistersOnly s t) : busy t = busy s := by
  rw [h]
  rfl

theorem finishMfpr_eq (v : Long) (o : Operands) (u : State) : finishMfpr v o u = .next (delivered v o u) := rfl

/-- The state after an MFPR from VPSR, but for what it delivers: S_VEN is up to date, and what AEX shows is reported where the
vector processor is seen disabled (R381, R426). -/
def vpsrSeen (s : State) : State :=
  let seen := { s.seeVen with cpu := { s.seeVen.cpu with venOld := none } }
  if s.vp.aex && !s.vp.ven then seen.reported else seen

theorem vpsrSeen_cpu (s : State) : (vpsrSeen s).cpu = { s.seeVen.cpu with venOld := none } := by
  unfold vpsrSeen
  split <;> rfl

theorem vpsrSeen_mem (s : State) : (vpsrSeen s).mem = s.mem := by
  unfold vpsrSeen
  split <;> rfl

theorem vpsrSeen_vp (s : State) : (vpsrSeen s).vp = if s.vp.aex && !s.vp.ven then s.vp.forget else s.vp := by
  unfold vpsrSeen
  split <;> rfl

/-- No hardware error is reported where none of an instruction that accesses no memory has been met, and one of a memory
instruction has not stopped execution (R432). -/
theorem mfprVpsr_eq {s : State} (o : Operands) (orig : State) (hop : s.vp.hwOp = false)
    (hmem : s.vp.hwMem = false ∨ s.vp.halted = false) (hold : s.vp.vaerOld = 0) (hlate : s.vp.aexLate = false)
    (hstoring : s.vp.storing = []) :
    mfprVpsr o orig s = .next (delivered (s.vp.vpsrImage (busy s)) o (vpsrSeen s)) := by
  have hreport : ((s.vp.hwOp && !busy s) || (s.vp.hwMem && stoppedFor operateGoal s)) = false := by
    rcases hmem with h | h <;> simp [hop, h, stoppedFor]
  simp only [mfprVpsr, completeMtpr_none s hold hlate hstoring, hreport]
  rfl

/-- The state after an MFPR from VAER, but for what it delivers: in the handler of a disabled fault, with BSY clear, what has been
recorded is reported (R426). -/
def vaerSeen (s : State) : State := if s.cpu.afterDisabled && !busy s then s.reported else s

theorem vaerSeen_cpu (s : State) : (vaerSeen s).cpu = s.cpu := by
  unfold vaerSeen
  split <;> rfl

theorem vaerSeen_mem (s : State) : (vaerSeen s).mem = s.mem := by
  unfold vaerSeen
  split <;> rfl

theorem vaerSeen_vp (s : State) : (vaerSeen s).vp = if s.cpu.afterDisabled && !busy s then s.vp.forget else s.vp := by
  unfold vaerSeen
  split <;> rfl

/-- Nothing of a clear shows any more (R382). -/
theorem mfprVaer_eq {s : State} (o : Operands) (hold : s.vp.vaerOld = 0) :
    mfprVaer o s = .next (delivered (s.vp.vaer &&& 0xFFFF002F) o (vaerSeen s)) := by
  have hval : s.vp.vaer ||| 0 = s.vp.vaer := BitVec.or_zero
  unfold mfprVaer
  rw [hold, hval]
  rfl

/-- A mask without bit `n` does not see that bit change. -/
theorem setBit_and (x : Long) {n : Nat} (hn : n < 32) (b : Bool) {m : Long} (hm : m.getLsbD n = false) :
    setBit x n b &&& m = x &&& m := by
  refine BitVec.eq_of_getLsbD_eq fun i _ => ?_
  rw [BitVec.getLsbD_and, BitVec.getLsbD_and, getLsbD_setBit x hn]
  split
  · rename_i h
    rw [h, hm, Bool.and_false, Bool.and_false]
  · rfl

theorem vpsrImage_busy (b : Bool) (p : Vp) : (p.vpsrImage b).getLsbD 31 = b := by
  rw [Vp.vpsrImage, getLsbD_setBit _ (by decide), if_pos rfl]

theorem vpsrImage_bits (b : Bool) (p : Vp) : p.vpsrImage b &&& 0x7FFFFFFF = p.vpsr &&& 0x030000E1 := by
  rw [Vp.vpsrImage, setBit_and _ (by decide) _ (by decide), BitVec.and_assoc]
  rfl

/-- MFPR from VPSR with a vector processor (R381). -/
theorem execMfpr_vpsr {a d : Spec} {s : State} {o : Operands} (ho : evalOperands 1 [.rl, .wl] [a, d] s = .ok o) (hm : s.mode = 0)
    (h90 : (o.value 0).lo = 0x90) (hp : s.cfg.vpPresent = true) :
    execMfpr a d s = mfprVpsr o { s with draws := o.state.draws } o.state := by
  rw [execMfpr_kernel ho hm, h90]
  exact if_pos hp

/-- MFPR from VAER with a vector processor (R383). -/
theorem execMfpr_vaer {a d : Spec} {s : State} {o : Operands} (ho : evalOperands 1 [.rl, .wl] [a, d] s = .ok o) (hm : s.mode = 0)
    (h91 : (o.value 0).lo = 0x91) (hp : s.cfg.vpPresent = true) : execMfpr a d s = mfprVaer o o.state := by
  rw [execMfpr_kernel ho hm, h91]
  exact if_pos hp

/-- MFPR from VSAR under the asynchronous method (R385). -/
theorem execMfpr_vsar {a d : Spec} {s : State} {o : Operands} (ho : evalOperands 1 [.rl, .wl] [a, d] s = .ok o) (hm : s.mode = 0)
    (h94 : (o.value 0).lo = 0x94) (hp : s.cfg.vpPresent = true) (ha : s.cfg.isAsync = true) :
    execMfpr a d s = .next (delivered o.state.vp.vsar o o.state) := by
  rw [execMfpr_kernel ho hm, h94]
  exact if_pos (by rw [hp, ha]; rfl)

/-- MTPR of a quadword-aligned value to VSAR under the asynchronous method (R385). -/
theorem execMtpr_vsar {a b : Spec} {s : State} {o : Operands} (ho : evalOperands 1 [.rl, .rl] [a, b] s = .ok o) (hm : s.mode = 0)
    (h94 : (o.value 1).lo = 0x94) (hp : s.cfg.vpPresent = true) (ha : s.cfg.isAsync = true) (hv : (o.value 0).lo &&& 7 = 0) :
    execMtpr a b s = .next ((finishIpr (o.value 0).lo o.next o.state).setVp { o.state.vp with vsar := (o.value 0).lo }) := by
  rw [execMtpr_kernel ho hm, h94]
  refine if_neg ?_
  rw [hp, ha, decide_eq_false (not_not_intro hv)]
  decide

theorem and_seven_eq_zero {v : Long} (h : v.toNat % 8 = 0) : v &&& 7 = 0 := by
  refine BitVec.eq_of_toNat_eq ?_
  rw [BitVec.toNat_and]
  exact (Nat.and_two_pow_sub_one_eq_mod v.toNat 3).trans h

/-- Settles O53: the two arms of VSAR, each in the state after the operands. -/
theorem stateAddress : Obligations.StateAddress := by
  refine ⟨fun a b s o ho hm h94 hp ha hv => ?_, fun a d s o ho hm h94 hp ha => ?_⟩
  · obtain ⟨-, hvp, hmem, -⟩ := (evalOperands_frame _ _ _ _ _ ho).fields
    exact ⟨_, execMtpr_vsar ho hm h94 hp ha (and_seven_eq_zero hv), by rw [State.setVp_vp, hvp], hmem, rfl⟩
  · obtain ⟨-, hvp, hmem, -⟩ := (evalOperands_frame _ _ _ _ _ ho).fields
    rw [hvp.symm]
    refine ⟨_, execMfpr_vsar ho hm h94 hp ha, ?_, ?_, rfl, fun n hd hn => delivered_register _ _ _ hd hn⟩
    · rw [delivered_frame]
    · rw [delivered_frame]
      exact hmem

/-- What an MFPR keeps where at most the report of what is recorded is new, and the condition codes (R370, R426). -/
theorem delivered_keeps {s u : State} {reported : Bool} (v : Long) (o : Operands)
    (hvp : u.vp = if reported then s.vp.forget else s.vp) (hmem : u.mem = s.mem) (hpsl : u.cpu.psl = s.cpu.psl) :
    (delivered v o u).vp.vpsr = s.vp.vpsr ∧ (delivered v o u).vp.vaer = s.vp.vaer ∧ (delivered v o u).vp.v = s.vp.v ∧
      (delivered v o u).mem = s.mem ∧ (delivered v o u).cpu.pc = o.next ∧
      (delivered v o u).cpu.psl.getLsbD 3 = v.msb ∧ (delivered v o u).cpu.psl.getLsbD 2 = decide (v = 0) ∧
      (delivered v o u).cpu.psl.getLsbD 1 = false ∧
      ∀ n, n ≠ 1 → n ≠ 2 → n ≠ 3 → (delivered v o u).cpu.psl.getLsbD n = s.cpu.psl.getLsbD n := by
  rw [delivered_frame]
  simp only [hvp, hmem, hpsl, getLsbD_setNZ]
  refine ⟨?_, ?_, ?_, trivial, trivial, rfl, rfl, rfl, fun n h1 h2 h3 => by rw [if_neg h1, if_neg h2, if_neg h3]⟩ <;>
    cases reported <;> rfl

/-- Settles O49: an MFPR from either register delivers its value in a state that differs from that after the operands by what is
reported. -/
theorem mfprStatus : Obligations.MfprStatus := by
  intro a d s o reg ho hm hreg hp hop hmem hold hlate hstoring hvpr
  have hs := evalOperands_frame _ _ _ _ _ ho
  obtain ⟨-, hvp, hmemo, -, -, -, -, hpsl, -, -, hseen, -⟩ := hs.fields
  have hbusy := busy_registersOnly hs
  have hafter : o.state.cpu.afterDisabled = s.cpu.afterDisabled := by rw [hs]
  rcases hvpr with rfl | rfl
  · have hexec := (execMfpr_vpsr ho hm hreg hp).trans (mfprVpsr_eq (s := o.state) o _ (by rw [hvp]; exact hop)
      (by rw [hvp]; exact hmem) (by rw [hvp]; exact hold) (by rw [hvp]; exact hlate) (by rw [hvp]; exact hstoring))
    have hu : (vpsrSeen o.state).vp = if s.vp.aex && !s.vp.ven then s.vp.forget else s.vp := by rw [vpsrSeen_vp, hvp]
    have hcpu := vpsrSeen_cpu o.state
    rw [hbusy, hvp] at hexec
    refine ⟨_, _, hexec, fun _ => ⟨vpsrImage_busy _ _, vpsrImage_bits _ _, ?_⟩, fun h => absurd h (by decide),
      fun n hd hn => delivered_register _ _ _ hd hn, fun pas hd hn => delivered_memory _ _ _ hd (dest_longPlace ho 1 pas hd) hn,
      fun _ => ?_, fun h => absurd h (by decide),
      delivered_keeps _ o hu ((vpsrSeen_mem _).trans hmemo) (by rw [hcpu]; exact hpsl)⟩
    · rw [delivered_frame]
      simp only [hcpu, State.seeVen_cpu, hvp]
      rfl
    · rw [delivered_frame]
      exact hu
  · have hexec := (execMfpr_vaer ho hm hreg hp).trans (mfprVaer_eq o (by rw [hvp]; exact hold))
    have hu : (vaerSeen o.state).vp = if s.cpu.afterDisabled && !busy s then s.vp.forget else s.vp := by
      rw [vaerSeen_vp, hbusy, hafter, hvp]
    have hcpu := vaerSeen_cpu o.state
    rw [hvp] at hexec
    refine ⟨_, _, hexec, fun h => absurd h (by decide), fun _ => ⟨rfl, ?_⟩,
      fun n hd hn => delivered_register _ _ _ hd hn, fun pas hd hn => delivered_memory _ _ _ hd (dest_longPlace ho 1 pas hd) hn,
      fun h => absurd h (by decide), fun _ => ?_,
      delivered_keeps _ o hu ((vaerSeen_mem _).trans hmemo) (by rw [hcpu]; exact hpsl)⟩
    · rw [delivered_frame]
      simp only [hcpu, hseen]
    · rw [delivered_frame]
      exact hu

end Sys2Proof.Machine
end

section
/-! Issue to a vector processor that does not run promptly: the instruction joins the queue (R53, R173, R176). -/

namespace Sys2Proof.Machine

/-! ### Joining the queue -/

/-- Where a plan is to come the vector processor executes nothing of its own accord (log entry 2). -/
theorem settle_planned {s : State} (h : s.sched ≠ []) : settle s = .next s := by
  unfold settle
  rw [if_neg (by simpa using h)]

theorem waits_congr {p p' : Vp} {q : List QEntry} (h : Waits p q) (hv : p'.vmr = p.vmr) : Waits p' q := by
  rcases h with h | ⟨e, rest, hq, k, ha, hd, hl⟩
  · exact .inl h
  · exact .inr ⟨e, rest, hq, k, by rw [sees_vmr_congr e p p' hv]; exact ha, hd, hl⟩

/-- What waits at the head of a queue waits there whatever comes behind it. -/
theorem Waits.cons {p : Vp} {e : QEntry} (h : Waits p [e]) {e' : QEntry} (hc : e'.cntrl = e.cntrl) (hlen : e'.len = e.len)
    (hcopy : e'.copy = e.copy) (hdone : e'.done = e.done) (hleft : e'.left = e.left) (q : List QEntry) : Waits p (e' :: q) := by
  rcases h with h | ⟨x, rest, hq, k, ha, hd, hl⟩
  · cases h
  · cases hq
    refine .inr ⟨e', q, rfl, k, ?_, by rw [hdone]; exact hd, by rw [hleft]; exact hl⟩
    have hsees : e'.sees p = e.sees p := by rw [QEntry.sees, QEntry.sees, hcopy]
    rw [QEntry.isActive, hc, hlen, hsees]
    exact ha

/-- An instruction that is sent under the asynchronous method joins the queue, and nothing else happens. -/
theorem send_queues {s : State} {e : QEntry} (next : Long) (orig : State) (hfull : queueFull s = false)
    (ha : s.cfg.isAsync = true) (hs : s.sched ≠ []) (hw : Waits s.vp (s.vp.queue ++ [{ e with draw := s.draws }])) :
    send e next orig s = .next { s.setPc next with
      vp := { s.vp with queue := s.vp.queue ++ [{ e with draw := s.draws }] }, draws := s.draws + 512 } := by
  have hsend : send e next orig s = settle (enqueue { e with draw := s.draws } next s.spend) := by
    have ha' : s.spend.cfg.isAsync = true := ha
    unfold send
    simp only [hfull, ha', Bool.false_eq_true, if_false]
  have hplanned := settle_planned (s := enqueue { e with draw := s.draws } next s.spend) hs
  have hretire : Vp.retire { s.vp with queue := s.vp.queue ++ [{ e with draw := s.draws }] } =
      { s.vp with queue := s.vp.queue ++ [{ e with draw := s.draws }] } := retire_waits (waits_congr (p := s.vp) hw rfl)
  exact (hsend.trans hplanned).trans
    (congrArg (fun p => Host.Outcome.next { s.setPc next with vp := p, draws := s.draws + 512 }) hretire)

/-- Issue of an instruction that nothing turns away and that the spec does not refuse, up to the wait for room. -/
theorem issue_ready {op : VOp} {sps : List Spec} {s : State} {o : Operands} (ho : evalOperands 2 op.accesses sps s = .ok o)
    (hi : Issuable s) (ha : Acceptable op sps o s) (hu : op.usesLength = true) (hl : (currentLength s.vp).toNat ≤ 64) :
    issue op sps s = andThen (makeRoom o.state) (send (entryOf op o s) o.next s) := by
  have hmf : o.state.vp.mf = false := by
    rw [(evalOperands_frame _ _ _ _ _ ho).fields.2.1]
    exact hi.2.2.2.1
  have hlen : ¬ 64 < (entryOf op o s).len.toNat := by
    rw [entryOf_len hu]
    omega
  have hr : refusalOf op sps (entryOf op o s) = none := by
    rw [refusalOf, ha]
    exact if_neg hlen
  simp only [issue, withVectorOperands, ho, turnedAway_none s hi, issueOp, hr, readyToSend, retrySuspended_none _ hmf]

theorem queueFull_registersOnly {s t : State} (h : RegistersOnly s t) : queueFull t = queueFull s := by
  rw [h]
  rfl

theorem makeRoom_of_room {s : State} (h : queueFull s = false) : makeRoom s = .next s := by
  unfold makeRoom
  rw [h]
  rfl

/-! ### A queue of one place -/

/-- What an instruction sees of VMR it sees again in what it sees. -/
theorem sees_sees_vmr (e : QEntry) (p : Vp) : (e.sees (e.sees p)).vmr = (e.sees p).vmr := by
  unfold QEntry.sees
  cases e.copy with
  | none => rfl
  | some c =>
    simp only [Vp.overlay_vmr, pick]
    refine BitVec.eq_of_getLsbD_eq fun i hi => ?_
    cases hm : c.readyMask[i] <;> simp [hi, hm]

/-- The instruction at the head of the queue that waits there is not complete. -/
theorem head_not_complete {s : State} {e : QEntry} (h : Waits s.vp [e]) : (viewAt s 0 e).complete e = false := by
  rcases h with h | ⟨x, rest, hq, k, ha, hd, hl⟩
  · cases h
  · cases hq
    have hview : viewAt s 0 e = ⟨e.sees s.vp, {}⟩ := by
      have hp := under_p ⟨s.vp, {}⟩ e
      have hr := ready_under s.vp e
      rw [viewAt, viewTo_zero]
      generalize View.under ⟨s.vp, {}⟩ e = w at *
      cases w
      simp_all
    have hopen : (View.openElems ⟨e.sees s.vp, {}⟩ e).getLsbD k = true := by
      rw [getLsbD_openElems, sees_sees_vmr, ha, hd, hl]
      simp
    rw [hview, View.complete, decide_eq_false_iff_not]
    intro h0
    rw [h0] at hopen
    simp at hopen

section
variable {s : State} {e : QEntry} (hd : s.cfg.queueDepth = some 1) (hq : s.vp.queue = [e])
include hd hq

theorem queueFull_one (hs : e.started = false) (hw : Waits s.vp [e]) : queueFull s = true := by
  simp [queueFull, hd, entryViews, hq, hs, head_not_complete hw]

theorem queueFull_one_started (hs : e.started = true) : queueFull s = false := by
  simp [queueFull, hd, entryViews, hq, hs]

/-- The scalar processor waits until the one instruction of the queue has started, and no longer (R173; log entry 41). -/
theorem makeRoom_one (hs : e.started = false) (hw : Waits s.vp [e]) (hf : e.fault = none) (hh : s.vp.halted = false) :
    makeRoom s = .next (s.startTo 0) ∧ queueFull (s.startTo 0) = false := by
  have hstart := startTo_single s e hq
  have hroom : queueFull (s.startTo 0) = false := by
    rw [hstart]
    exact queueFull_one_started hd rfl rfl
  have hnext : nextStart s = some 0 := by
    simp [nextStart, entryViews, hq, hs, head_not_complete hw, mayRun, mayStart, heldUp, QEntry.suspended, QEntry.retrying, hf, hh]
  have hretry : whileRetrying s = .next s := by
    simp [whileRetrying, hq, QEntry.retrying, hf]
  refine ⟨?_, hroom⟩
  rw [makeRoom, queueFull_one hd hq hs hw, if_pos rfl, hretry, andThen_next, hq]
  show makeRoomFuel (65 + 1) s = _
  rw [makeRoomFuel, queueFull_one hd hq hs hw, if_pos rfl]
  simp only [hnext]
  rw [makeRoomFuel, hroom]
  rfl

end

/-! ### The order of starts -/

/-- An instruction does not start before one that has not, is not complete, and is held up (R53, R172, R413). -/
theorem mayStart_behind_heldUp {s : State} {j k : Nat} {ej ek : QEntry} (hjk : j < k) (hj : s.vp.queue[j]? = some ej)
    (hs : ej.started = false) (hc : (viewAt s j ej).complete ej = false) (hh : heldUp s.vp j ej = true) :
    mayStart s k ek = false := by
  have hmem : ((viewAt s j ej, ej), j) ∈ ((entryViews s).take k).zipIdx := by
    rw [List.mem_zipIdx_iff_getElem?, List.getElem?_take, if_pos hjk, entryViews, List.getElem?_mapIdx, hj]
    rfl
  unfold mayStart
  rw [Bool.and_eq_false_iff]
  refine .inr (List.all_eq_false.mpr ⟨_, hmem, ?_⟩)
  simp [hs, hc, hh]

/-- What has started is not started again. -/
theorem startTo_startTo {s : State} {k : Nat} {e : QEntry} (h : s.vp.queue[k]? = some e) (hs : e.started = false) :
    (s.startTo k).startTo k = s.startTo k := by
  have hk : (startQueue k s.vp.queue)[k]? = some { e with started := true } := startQueue_starts h hs le_rfl h
  have hq : startQueue k (startQueue k s.vp.queue) = startQueue k s.vp.queue := by
    conv_lhs => rw [startQueue, hk]
    rfl
  rw [State.startTo, State.startTo_vp, hq]
  rfl

/-- To run an instruction that can start is to run it once it has (R53). -/
theorem runEntry_startTo {s : State} {k : Nat} {e : QEntry} (he : s.vp.queue[k]? = some e) (hs : e.started = false)
    (hm : mayRun s k e = true) (elems : Option Quad) (part : Option Nat) :
    runEntry k elems part s = runEntry k elems part (s.startTo k) := by
  have hk : (s.startTo k).vp.queue[k]? = some { e with started := true } := startQueue_starts he hs le_rfl he
  have hm' : mayRun (s.startTo k) k { e with started := true } = true := by
    simp only [mayRun, Bool.and_eq_true] at hm ⊢
    exact ⟨hm.1, rfl⟩
  simp only [runEntry, he, hk, hm, hm', if_true, startTo_startTo he hs]

/-- Settles O37: issue comes down to the wait for room and the send. Where there is room the send only joins the queue; a full
queue of one has room once its instruction is marked as started. -/
theorem issueQueues : Obligations.IssueQueues := by
  intro c b x i op sps s o hmem ho hi ha hl hsched hasync e
  obtain ⟨hexec, hu⟩ := exec_lengthForm hmem s
  have hs := evalOperands_frame _ _ _ _ _ ho
  obtain ⟨hcfg, hvp, -, -, -, -, hsch, -⟩ := hs.fields
  rw [hexec, issue_ready ho hi ha hu hl]
  have hasync' : o.state.cfg.isAsync = true := by rw [hcfg]; exact hasync
  have hsched' : o.state.sched ≠ [] := by rw [hsch]; exact hsched
  refine ⟨fun hfull hw => ?_, entryOf_cntrl hu o s, rfl, entryOf_len hu o s, fun j k ej ek hjk hj hk hsj hcj hsk elems part =>
    ⟨fun hh => ?_, ?_⟩, fun e0 hd hq hw hf hst hh => ?_⟩
  · have hroom := (queueFull_registersOnly hs).trans hfull
    rw [makeRoom_of_room hroom, andThen_next, send_queues _ _ hroom hasync' hsched' (by rw [hvp]; exact hw), hvp]
    rfl
  · refine runEntry_of_not_mayRun hk ?_ elems part
    rw [mayRun, hsk, mayStart_behind_heldUp hjk hj hsj hcj hh]
    simp
  · cases hm : mayRun s k ek with
    | false => exact .inl (runEntry_of_not_mayRun hk hm elems part)
    | true => exact .inr ⟨runEntry_startTo hk hsk hm elems part, startQueue_starts hk hsk hjk.le hj⟩
  · obtain ⟨hroom, hfull⟩ := makeRoom_one (s := o.state) (by rw [hcfg]; exact hd) (by rw [hvp]; exact hq) hst
      (by rw [hvp]; exact hw) hf (by rw [hvp]; exact hh)
    have hstart := startTo_single o.state e0 (by rw [hvp]; exact hq)
    rw [hroom, andThen_next, send_queues _ _ hfull hasync' hsched' ?_, hstart, hvp]
    · rfl
    · rw [hstart, hvp]
      exact waits_congr (p := s.vp) (hw.cons (e' := { e0 with started := true }) rfl rfl rfl rfl rfl _) rfl

end Sys2Proof.Machine
end

section
/-! Memory as bytes: what a list of writes leaves at an address (R82), what makes an element's reference an access control
violation (R408, R409), and MTPR and MFPR on the registers of memory management and on VMAC. -/

namespace Sys2Proof.Machine

/-! ### Bytes written and read back -/

/-- After a list of writes a byte is what the youngest of them wrote there, else what it was. -/
theorem Memory.read_writeCells (cs : List Host.Cell) {m : Memory} (hm : m.wf = true) (x : Nat) :
    (m.writeCells cs).read x = (lastCell cs x).getD (m.read x) := by
  induction cs generalizing m with
  | nil => rfl
  | cons c cs ih =>
    obtain ⟨a, b⟩ := c
    have hrest : (m.writeCells ((a, b) :: cs)).read x = (lastCell cs x).getD ((m.write a b).read x) :=
      ih (Memory.wf_write m a b hm)
    rw [hrest, lastCell]
    cases lastCell cs x with
    | some y => rfl
    | none =>
      by_cases hx : a = x
      · subst hx
        simp [Memory.read_write_same m a b hm]
      · simp [hx, Memory.read_write_other m a x b (Ne.symm hx)]

/-- Of a datum's bytes the one at distance `j` is byte `j`, and there are no others (R82). -/
theorem lastCell_cellsLE (a n v x : Nat) :
    lastCell (cellsLE a n v) x = if a ≤ x ∧ x < a + n then some (BitVec.ofNat 8 (v / 256 ^ (x - a))) else none := by
  induction n generalizing a v with
  | zero => rw [if_neg (by omega)]; rfl
  | succ n ih =>
    rw [cellsLE, lastCell, ih]
    by_cases hx : a = x
    · subst hx
      simp
    · by_cases hin : a + 1 ≤ x ∧ x < a + 1 + n
      · have hsub : x - a = (x - (a + 1)) + 1 := by omega
        have hin' : a ≤ x ∧ x < a + (n + 1) := by omega
        rw [if_pos hin, if_pos hin', hsub, Nat.pow_succ', Nat.div_div_eq_div_mul]
      · have hout : ¬(a ≤ x ∧ x < a + (n + 1)) := by omega
        rw [if_neg hin, if_neg hout, if_neg hx]

/-- A number is read where its bytes are (R82). -/
theorem Memory.readLE_eq {m : Memory} {a n v : Nat} (h : ∀ j, j < n → m.read (a + j) = BitVec.ofNat 8 (v / 256 ^ j)) :
    m.readLE a n = v % 256 ^ n := by
  induction n generalizing a v with
  | zero => simp [Memory.readLE, Nat.mod_one]
  | succ n ih =>
    have hfirst : m.read a = BitVec.ofNat 8 v := by simpa using h 0 (Nat.succ_pos n)
    have hrest : m.readLE (a + 1) n = v / 256 % 256 ^ n := ih fun j hj => by
      have hbyte := h (j + 1) (Nat.succ_lt_succ hj)
      rw [Nat.pow_succ', ← Nat.div_div_eq_div_mul] at hbyte
      rw [Nat.add_assoc, Nat.add_comm 1 j]
      exact hbyte
    rw [Memory.readLE, hfirst, hrest, Nat.pow_succ', Nat.mod_mul]
    simp

/-- Settles O28: each byte of the datum is the youngest write at its address. -/
theorem memoryReadAfterWrite : Obligations.MemoryReadAfterWrite := by
  intro m a n v hm
  have hread (x : Nat) := Memory.read_writeCells (cellsLE a n v) hm x
  have hbyte (j : Nat) (hj : j < n) : (m.writeCells (cellsLE a n v)).read (a + j) = BitVec.ofNat 8 (v / 256 ^ j) := by
    rw [hread, lastCell_cellsLE, if_pos (by omega), Nat.add_sub_cancel_left]
    rfl
  refine ⟨?_, fun j hj => ?_, fun x hx => ?_⟩
  · rw [Memory.readLE_eq hbyte, Nat.pow_mul]
  · rw [hbyte j hj, Nat.pow_mul]
    rfl
  · rw [hread, lastCell_cellsLE, if_neg (by omega)]
    rfl

/-! ### Access control violations -/

/-- A flag of the fault parameter is at its position, if the parameter has that position (R411). -/
theorem getLsbD_or_paramBit (x : Long) (n : Nat) : (x ||| paramBit n true).getLsbD n = decide (n < 32) := by
  by_cases hn : n < 32
  · simp [paramBit, hn]
  · simp [hn, BitVec.getLsbD_of_ge _ n (Nat.le_of_not_lt hn)]

section
variable {c : Config} {mode : BitVec 2} {write : Bool} {size : Nat} {row : Option MapRow} {va : Long} {f : MmFault}

/-- Every violation is of its reference's address. -/
theorem violations_kind (h : f ∈ violations c mode write size row va) : f.kind = .accessViolation ∧ f.va = va := by
  simp only [violations, List.mem_append] at h
  rcases h with (h | h) | h
  · split at h
    · rw [List.mem_singleton.mp h]
      exact ⟨rfl, rfl⟩
    · cases h
  all_goals
    split at h
    · split at h
      · rw [List.mem_singleton.mp h]
        exact ⟨rfl, rfl⟩
      · cases h
    · cases h

theorem violation_of_misaligned (h : va.toNat % size ≠ 0) :
    ⟨.accessViolation, scalarParam c false false write ||| paramBit c.faultBits.valBit true, va⟩ ∈
      violations c mode write size row va := by
  simp only [violations, if_pos h]
  exact List.mem_append_left _ (List.mem_append_left _ List.mem_cons_self)

theorem violation_of_ioSpace {pa : Nat} (hv : c.setsVio = true) (hp : placeOf row va = some pa)
    (hi : inRanges c.ioSpace pa size = true) :
    ⟨.accessViolation, scalarParam c false false write ||| paramBit c.faultBits.vioBit true, va⟩ ∈
      violations c mode write size row va := by
  simp only [violations, hp, hv, hi, Bool.and_true, if_true]
  exact List.mem_append_right _ List.mem_cons_self

end

/-- A reference with a violation fails with its violations, whatever else is wrong with it (R409). -/
theorem checkRef_of_violation {s : State} {mode : BitVec 2} {write : Bool} {size : Nat} {row : Option MapRow} {va : Long}
    {f : MmFault} (h : f ∈ violations s.cfg mode write size row va) :
    checkRef s mode write size row va = .fails (violations s.cfg mode write size row va) := by
  have hne : (violations s.cfg mode write size row va).isEmpty = false := by
    rw [List.isEmpty_eq_false_iff]
    exact List.ne_nil_of_mem h
  simp only [checkRef, hne, Bool.not_false, if_true]

/-- Settles O23: each of the two is among the violations, of which the check's failure consists. -/
theorem misalignedReference : Obligations.MisalignedReference := by
  intro s mode write size row va
  refine ⟨fun hal => ?_, fun pa hv hp hi => ?_⟩
  · have hmem := violation_of_misaligned (c := s.cfg) (mode := mode) (write := write) (row := row) hal
    exact ⟨_, checkRef_of_violation hmem, ⟨_, hmem, getLsbD_or_paramBit _ _⟩, fun _ => violations_kind⟩
  · have hmem := violation_of_ioSpace (mode := mode) (write := write) hv hp hi
    exact ⟨_, checkRef_of_violation hmem, ⟨_, hmem, getLsbD_or_paramBit _ _⟩, fun _ => violations_kind⟩

end Sys2Proof.Machine
end

section
/-! MTPR to the registers of memory management and to VTBIA, MFPR from VMAC, and which step runs what (R113 to R118, R384, R390). -/

namespace Sys2Proof.Machine

/-! ### MTPR to the scalar registers of memory management -/

/-- Below the vector processor's registers MTPR writes a scalar one (R393). -/
theorem mtprWrite_scalar {n v : Long} (s t : State) (hn : n.toNat < 0x90) : mtprWrite n v s t = mtprScalar n v t := by
  unfold mtprWrite
  split
  case h_6 => exact if_neg (by omega)
  all_goals omega

section
variable {n v : Long} {s : State} (hr : s.cfg.iprs = {})
include hr

/-- MTPR to a memory-management register writes both processors' registers (R113; numbers: log entry 12). -/
theorem mtprScalar_mmReg {get : MmRegs → Long}
    (hn : n.toNat = 8 ∧ get = MmRegs.p0br ∨ n.toNat = 9 ∧ get = MmRegs.p0lr ∨ n.toNat = 10 ∧ get = MmRegs.p1br ∨
      n.toNat = 11 ∧ get = MmRegs.p1lr ∨ n.toNat = 12 ∧ get = MmRegs.sbr ∨ n.toNat = 13 ∧ get = MmRegs.slr) :
    ∃ f, mtprScalar n v s = .next (setMmRegs f s) ∧ ∀ m, get (f m) = v := by
  rcases hn with ⟨h, rfl⟩ | ⟨h, rfl⟩ | ⟨h, rfl⟩ | ⟨h, rfl⟩ | ⟨h, rfl⟩ | ⟨h, rfl⟩
  · exact ⟨fun m => { m with p0br := v }, by simp [mtprScalar, hr, h], fun _ => rfl⟩
  · exact ⟨fun m => { m with p0lr := v }, by simp [mtprScalar, hr, h], fun _ => rfl⟩
  · exact ⟨fun m => { m with p1br := v }, by simp [mtprScalar, hr, h], fun _ => rfl⟩
  · exact ⟨fun m => { m with p1lr := v }, by simp [mtprScalar, hr, h], fun _ => rfl⟩
  · exact ⟨fun m => { m with sbr := v }, by simp [mtprScalar, hr, h], fun _ => rfl⟩
  · exact ⟨fun m => { m with slr := v }, by simp [mtprScalar, hr, h], fun _ => rfl⟩

theorem mtprScalar_tbia (hn : n.toNat = 0x39) :
    mtprScalar n v s = .next (s.setVp (invalidate s.cfg.isAsync (fun _ => true) s.vp)) := by
  simp [mtprScalar, hr, hn]

theorem mtprScalar_tbis (hn : n.toNat = 0x3A) :
    mtprScalar n v s = .next (s.setVp
      (invalidate s.cfg.isAsync (fun x => decide (x.va ≤ v.toNat) && decide (v.toNat < x.va + x.len)) s.vp)) := by
  simp [mtprScalar, hr, hn]

end

/-- In kernel mode MTPR to a scalar register writes it in the state after the operands. -/
theorem execMtpr_scalar {a b : Spec} {s : State} {o : Operands} (ho : evalOperands 1 [.rl, .rl] [a, b] s = .ok o)
    (hm : s.mode = 0) (hn : (o.value 1).lo.toNat < 0x90) :
    execMtpr a b s = mtprScalar (o.value 1).lo (o.value 0).lo (finishIpr (o.value 0).lo o.next o.state) :=
  (execMtpr_kernel ho hm).trans (mtprWrite_scalar _ _ hn)

/-- Settles O54: the copies are written together, whatever the vector processor's state. -/
theorem memoryManagementCopies : Obligations.MemoryManagementCopies := by
  intro a b s o ho hm hr v n get hn
  obtain ⟨hcfg, hvp, hmem, -⟩ := (evalOperands_frame _ _ _ _ _ ho).fields
  have hr' : (finishIpr v o.next o.state).cfg.iprs = {} := (congrArg Config.iprs hcfg).trans hr
  obtain ⟨f, hf, hget⟩ := mtprScalar_mmReg (v := v) hr' hn
  have hn90 : n < 0x90 := by omega
  refine ⟨_, (execMtpr_scalar ho hm hn90).trans hf, hget _, hget _, ?_, hmem, rfl⟩
  rw [← hvp]
  rfl

/-! ### Translation buffers -/

theorem mtprWrite_vtbia_own {n v : Long} (s t : State) (hn : n.toNat = 0x93) (hp : s.cfg.vpPresent = true)
    (ho : s.cfg.vectorTb = .own) (hb : s.cfg.hasVtbia = true) (hv : v = 0#32) :
    mtprWrite n v s t = .next (t.setVp (invalidateOwn t.vp)) := by
  simp [mtprWrite, hn, hp, ho, hb, hv]

theorem mtprWrite_vtbia_none {n v : Long} (s t : State) (hn : n.toNat = 0x93)
    (h : s.cfg.vpPresent = false ∨ s.cfg.vectorTb = .shared) : mtprWrite n v s t = .next t := by
  rcases h with h | h <;> simp [mtprWrite, hn, h]

/-- Invalidating every translation leaves none (R115). -/
theorem invalidate_all (async : Bool) (p : Vp) :
    invalidate async (fun _ => true) p = { p with
      tb := [], queue := p.queue.map fun e => { e with tb := [], checked := if async then none else e.checked } } := by
  simp [invalidate]

/-- A translation that is not for an address is for addresses above or below it. -/
theorem not_covers (v : Nat) (r : MapRow) :
    (!(decide (r.va ≤ v) && decide (v < r.va + r.len))) = decide (v < r.va ∨ r.va + r.len ≤ v) := by
  rw [← Bool.decide_and, ← decide_not]
  exact decide_eq_decide.mpr (by omega)

/-- Settles O52: each register's arm in the state after the operands, whose vector processor is that of before. -/
theorem translationBufferInvalidate : Obligations.TranslationBufferInvalidate := by
  intro a b s o ho hm
  obtain ⟨hcfg, hvp, hmem, -⟩ := (evalOperands_frame _ _ _ _ _ ho).fields
  have hexec := execMtpr_kernel ho hm
  have hreg {k : Long} (h : (o.value 1).lo = k) : (o.value 1).lo.toNat = k.toNat := congrArg BitVec.toNat h
  have hiprs (h : s.cfg.iprs = {}) : (finishIpr (o.value 0).lo o.next o.state).cfg.iprs = {} :=
    (congrArg Config.iprs hcfg).trans h
  refine ⟨fun h hv hp htb hb => ?_, fun h hnone => ?_, fun h hr => ?_, fun h hr => ?_⟩
  · refine ⟨_, hexec.trans (mtprWrite_vtbia_own _ _ (hreg h) hp htb hb hv), hmem, ?_⟩
    rw [← hvp]
    rfl
  · exact ⟨_, hexec.trans (mtprWrite_vtbia_none _ _ (hreg h) hnone), hvp, hmem⟩
  · have hn : (o.value 1).lo.toNat = 0x39 := hreg h
    refine ⟨_, (execMtpr_scalar ho hm (by omega)).trans (mtprScalar_tbia (hiprs hr) hn), hmem, ?_⟩
    rw [State.setVp_vp, invalidate_all, ← hvp, ← hcfg]
    rfl
  · have hn : (o.value 1).lo.toNat = 0x3A := hreg h
    refine ⟨_, (execMtpr_scalar ho hm (by omega)).trans (mtprScalar_tbis (hiprs hr) hn), hmem, ?_⟩
    simp only [State.setVp_vp, invalidate, not_covers]
    rw [← hvp, ← hcfg]
    rfl

/-! ### MFPR from VMAC -/

/-- With nothing queued no hardware error has stopped anything. -/
theorem stoppedFor_empty (g : Goal) (s : State) (h : s.vp.queue = []) : stoppedFor g s = false := by
  simp [stoppedFor, nextWanted, entryViews, h]

/-- With nothing queued and no hardware error to report, MFPR from VMAC only makes every write visible (R390). -/
theorem mfprVmac_idle {s : State} (o : Operands) (orig : State) (hq : s.vp.queue = []) (hw : s.vp.hwMem = false) :
    mfprVmac o orig s = .next (delivered (miscDraw s.draws 1).lo o (seeImp s.flushAll).spend) := by
  have hreport : (s.vp.hwMem || (s.vp.hwOp && stoppedFor memoryGoal s)) = false := by
    rw [hw, stoppedFor_empty _ _ hq, Bool.and_false, Bool.or_false]
  rw [mfprVmac, pursue_empty _ _ _ hq, andThen_next, hreport]
  rfl

theorem seeImp_vp (s : State) : (seeImp s).vp = { s.vp with impUnseen := false } := by
  unfold seeImp
  split
  · rfl
  · rename_i h
    rw [← Bool.eq_false_iff.mpr h]

theorem seeImp_venSeen (s : State) : (seeImp s).cpu.venSeen = (s.cpu.venSeen && !s.vp.impUnseen) := by
  unfold seeImp
  split
  · rename_i h
    simp [h]
  · rename_i h
    simp [Bool.eq_false_iff.mpr h]

theorem seeImp_mem (s : State) : (seeImp s).mem = s.mem := by
  unfold seeImp
  split <;> rfl

/-- With every write visible memory holds the youngest scalar write, else what the vector processor saw (R102). -/
theorem flushAll_read {s : State} (hm : s.mem.wf = true) (x : Nat) :
    s.flushAll.mem.read x = (lastCell s.cpu.wbuf.flatten x).getD (s.vectorByte x) := by
  rw [State.flushAll_mem, Memory.read_writeCells _ (Memory.wf_writeCells _ _ hm), Memory.read_writeCells _ hm]
  rfl

/-- Settles O55: MFPR delivers in the state in which every write is visible and what VPSR<IMP> has shown is seen. -/
theorem activityCheck : Obligations.ActivityCheck := by
  intro a d s o ho hm h92 hp hq hw hwf
  obtain ⟨-, hvp, hmem, -, -, -, -, -, hwbuf, -, hven, -⟩ := (evalOperands_frame _ _ _ _ _ ho).fields
  have hexec : execMfpr a d s = mfprVmac o { s with draws := o.state.draws } o.state := by
    rw [execMfpr_kernel ho hm, h92]
    exact if_pos hp
  refine ⟨_, hexec.trans (mfprVmac_idle o _ (by rw [hvp]; exact hq) (by rw [hvp]; exact hw)), ?_, rfl, ?_, fun x => ?_⟩
  all_goals rw [delivered_frame]
  · show (seeImp o.state.flushAll).vp = _
    rw [seeImp_vp, State.flushAll_vp, hvp]
  · show (seeImp o.state.flushAll).cpu.venSeen = _
    rw [seeImp_venSeen, State.flushAll_cpu, State.flushAll_vp, hvp, ← hven]
  · show (seeImp o.state.flushAll).mem.read x = _
    rw [seeImp_mem, flushAll_read (by rw [hmem]; exact hwf), State.vectorByte, hwbuf, hvp, hmem]
    rfl

/-! ### What a step runs -/

/-- With nothing pending, nothing racing and nothing to report, all that comes before an instruction is that every write becomes
visible and S_VEN is up to date (log entries 3 and 4). -/
theorem advance_quiet {s : State} (hq : Quiet s) (hr : s.races = []) (hm : s.vp.hwMem = false) (ho : s.vp.hwOp = false)
    (hv : s.vp.vaerOld = 0) (ha : s.vp.aexLate = false) : advance s = .next s.flushAll.seeVen := by
  obtain ⟨hsched, hqueue, -, -⟩ := hq
  have hclear : s.flushAll.clearNow = s.flushAll := by
    rw [State.clearNow, State.flushAll_vp, ← hv, ← ha]
    rfl
  have hmet : s.flushAll.vp.hwMet = false := by rw [State.flushAll_vp, Vp.hwMet, hm, ho]; rfl
  simp only [advance, State.settleRaces_none s hr, hsched, drain_empty s hqueue, andThen_next, hclear, hmet,
    Bool.false_eq_true, if_false]

/-- A step runs what the bytes at the PC decode to. -/
theorem fetchDecode_vector {s : State} {i : Instr} {len : Nat}
    (hd : decode s.cfg.regnum (fetchBytes s maxLength s.cpu.pc).bytes = .ok (.vector i, len))
    (hw : overwritten s (fetchBytes s maxLength s.cpu.pc) len = false) : fetchDecode s = .vector i := by
  simp only [fetchDecode, hd, hw, Bool.false_eq_true, if_false]

/-- Settles O8: the step is the instruction fetched after what comes in between. -/
theorem stepRunsDecoded : Obligations.StepRunsDecoded := by
  refine ⟨fun s s' i len ha hd hw => ?_, fun s hq hr hm ho hv hl => advance_quiet hq hr hm ho hv hl⟩
  rw [step, ha, andThen_next, fetchDecode_vector hd hw]

end Sys2Proof.Machine
end

section
/-! What the spec tells a model to refuse of overwriting: a store over its own operands (R147, R224), and code that a vector store
wrote (R118). -/

namespace Sys2Proof.Machine

/-! ### The head of the queue -/

/-- The head of the queue sees the registers as they are, but for what VPSR<STS> stored with it (R56). -/
theorem viewAt_head (s : State) (e : QEntry) : viewAt s 0 e = ⟨e.sees s.vp, {}⟩ := by
  have hview : ∀ w : View, w.p = e.sees s.vp → w.ready = {} → w = ⟨e.sees s.vp, {}⟩ := by
    rintro ⟨p, r⟩ rfl rfl
    rfl
  rw [viewAt, viewTo_zero]
  exact hview _ (under_p _ e) (ready_under s.vp e)

/-- The head of the queue can execute everything that is open of it, whatever it sees. -/
theorem runnable_seen (s : State) (p : Vp) (e : QEntry) (hl : e.len.toNat ≤ 64) :
    runnable s 0 ⟨p, {}⟩ e = View.openElems ⟨p, {}⟩ e := by
  have hother : runnable s 0 ⟨p, {}⟩ e = runnable (s.setVp p) 0 ⟨p, {}⟩ e := by simp only [runnable, orderAllows_head]
  exact hother.trans (runnable_head (s.setVp p) e hl)

section
variable {s : State} {e : QEntry} {sz : ElemSize} {ad : Addressing} {rest : List QEntry} (hq : s.vp.queue = e :: rest)
  (hl : e.len.toNat ≤ 64) (hopen : View.openElems ⟨e.sees s.vp, {}⟩ e ≠ 0)
include hq hl hopen

/-- The load at the head of the queue moves its open elements. -/
theorem runElems_load (hop : e.op = .load sz ad) :
    runElems 0 allElements none s =
      settleMove 0 ⟨e.sees s.vp, {}⟩
        (moveLoad sz ad ⟨e.sees s.vp, {}⟩ e (View.openElems ⟨e.sees s.vp, {}⟩ e) none s) := by
  have hall : View.openElems ⟨e.sees s.vp, {}⟩ e &&& allElements = View.openElems ⟨e.sees s.vp, {}⟩ e := BitVec.and_allOnes
  have hget : s.vp.queue[0]? = some e := by rw [hq]; rfl
  simp only [runElems, hget, viewAt_head, runnable_seen s _ e hl, hall, if_neg hopen, hop]

/-- The store at the head of the queue moves its open elements. -/
theorem runElems_store (hop : e.op = .store sz ad) :
    runElems 0 allElements none s =
      settleMove 0 ⟨e.sees s.vp, {}⟩
        (moveStore sz ad ⟨e.sees s.vp, {}⟩ e (View.openElems ⟨e.sees s.vp, {}⟩ e) none s) := by
  have hall : View.openElems ⟨e.sees s.vp, {}⟩ e &&& allElements = View.openElems ⟨e.sees s.vp, {}⟩ e := BitVec.and_allOnes
  have hget : s.vp.queue[0]? = some e := by rw [hq]; rfl
  simp only [runElems, hget, viewAt_head, runnable_seen s _ e hl, hall, if_neg hopen, hop]

end

/-! ### A store over its own operands -/

theorem exec_storeForm {c b x : Spec} {i : Instr} {sz : ElemSize} {ad : Addressing} {sps : List Spec}
    (h : (i, sz, ad, sps) ∈ storeForms c b x) (s : State) : exec i s = issue (.store sz ad) sps s := by
  have hmem : (i, VOp.store sz ad, sps) ∈ lengthForms c b x := List.mem_append_right _ (List.mem_map_of_mem h)
  exact (exec_lengthForm hmem s).1

/-- On an idle vector processor the open elements of an instruction that is sent are the active ones (R180, R181). -/
theorem openElems_sentEntry {op : VOp} (hu : op.usesLength = true) (o : Operands) {s : State} (hq : s.vp.queue = [])
    (k : Fin 64) : (View.openElems ⟨s.vp, {}⟩ (sentEntry op o s)).getLsbD k = true ↔ Active s o k := by
  have hc : (sentEntry op o s).cntrl = controlWord o := entryOf_cntrl hu o s
  have hl : (sentEntry op o s).len = s.vp.vlr := (entryOf_len hu o s).trans (currentLength_empty _ hq)
  have hd : (sentEntry op o s).done = 0 := rfl
  have hf : (sentEntry op o s).left = 0 := rfl
  rw [getLsbD_openElems, sees_none rfl, QEntry.isActive, hc, hl, hd, hf]
  simp [active, Active, moe, mtf]

/-- What the check of a reference looks at: the configuration, the page tables, the memory-management registers and the
translation buffer (R90, R112, R117). -/
def SameWalk (s t : State) : Prop :=
  t.cfg = s.cfg ∧ t.pageMap = s.pageMap ∧ t.cpu.mm = s.cpu.mm ∧ t.vp.mm = s.vp.mm ∧ t.vp.tb = s.vp.tb

theorem SameWalk.vectorRow {s t : State} (h : SameWalk s t) (e : QEntry) (pick : Quad) (va : Long) :
    vectorRow t e pick va = vectorRow s e pick va := by
  obtain ⟨hc, hp, hm, hv, htb⟩ := h
  have hwalk (va : Long) : walkRow t va = walkRow s va := by
    unfold walkRow vectorRegs
    rw [hc, hp, hm, hv]
  unfold Machine.vectorRow staleRows
  simp only [hwalk, hc, htb]

theorem SameWalk.checkRef {s t : State} (h : SameWalk s t) (mode : BitVec 2) (write : Bool) (size : Nat) (row : Option MapRow)
    (va : Long) : checkRef t mode write size row va = checkRef s mode write size row va := by
  simp only [Machine.checkRef, h.1]

theorem RegistersOnly.sameWalk {s t : State} (h : RegistersOnly s t) : SameWalk s t := by
  obtain ⟨hc, hv, -, hp, -, -, -, -, -, -, -, -, hm, -⟩ := h.fields
  exact ⟨hc, hp, hm, congrArg Vp.mm hv, congrArg Vp.tb hv⟩

section
variable {s : State} {e : QEntry} {sz : ElemSize} {ad : Addressing} {pa : Fin 64 → Nat} {k : Fin 64} {g : Nat}
  (hpass : ∀ i : Fin 64, (View.openElems ⟨s.vp, {}⟩ e).getLsbD i = true → ∀ pick,
    checkRef s e.mode true sz.bytes (vectorRow s e pick (elemAddress ad e s.vp i)) (elemAddress ad e s.vp i) = .ok (pa i))
  (hk : (View.openElems ⟨s.vp, {}⟩ e).getLsbD k = true) (hg : g ∈ e.guards) (hover : pa k ≤ g ∧ g < pa k + sz.bytes)
include hpass hk hg hover

/-- Where the references of the open elements pass and one lies over the operands, the checks collect that (R224). -/
theorem gatherRefs_overOperands :
    let refs := gatherRefs s e s.vp ad sz.bytes true (elemsOf (View.openElems ⟨s.vp, {}⟩ e))
    refs.refusal = none ∧ overOperands sz.bytes e refs.oks = true := by
  intro refs
  obtain ⟨hoks, -, hrefusal⟩ := gatherRefs_ok s e ad sz.bytes true pa (elemsOf (View.openElems ⟨s.vp, {}⟩ e))
    fun i hi => hpass i ((mem_elemsOf _ _).mp hi)
  refine ⟨hrefusal, ?_⟩
  simp only [refs, hoks, overOperands, List.any_eq_true, List.mem_map]
  exact ⟨_, ⟨k, (mem_elemsOf _ _).mpr hk, rfl⟩, g, hg, by simpa using hover⟩

/-- The store at the head of the queue is refused as it accesses memory. -/
theorem runElems_overOperands {rest : List QEntry} (hq : s.vp.queue = e :: rest) (hl : e.len.toNat ≤ 64)
    (hop : e.op = .store sz ad) (hcp : e.copy = none) (hck : e.checked = none) :
    runElems 0 allElements none s = .refused .storeOverlapsOperands := by
  have hopen : View.openElems ⟨s.vp, {}⟩ e ≠ 0 := fun h0 => by simp [h0] at hk
  have hrun := runElems_store hq hl (by rw [sees_none hcp]; exact hopen) hop
  obtain ⟨hrefusal, hguards⟩ := gatherRefs_overOperands hpass hk hg hover
  rw [sees_none hcp] at hrun
  rcases moveStore_cases sz ad ⟨s.vp, {}⟩ e (View.openElems ⟨s.vp, {}⟩ e) none s with
    ⟨r, h, -⟩ | ⟨-, -, h⟩ | ⟨-, h, -⟩ | ⟨-, h, -⟩
  case inr.inl => rw [hrun, h]; rfl
  all_goals
    simp only [moveRefs, hck] at h
    simp_all

/-- By the synchronous method the store is refused as it is checked (R174). -/
theorem checkAtIssue_overOperands (hq : s.vp.queue = []) (next : Long) (orig : State) :
    checkAtIssue sz ad true e next orig s = .refused .storeOverlapsOperands := by
  obtain ⟨hrefusal, hguards⟩ := gatherRefs_overOperands hpass hk hg hover
  have hexamine : examine sz ad true ⟨s.vp, {}⟩ e s = .refused .storeOverlapsOperands := by
    simp only [examine, hrefusal, hguards, Bool.and_self, if_true]
  simp only [checkAtIssue, pursue_empty _ _ s hq, andThen_next, stillWanted_empty s _ hq, viewAll_empty s hq, hexamine,
    Bool.false_eq_true, if_false]

end

/-- A store of which an active element's reference lies over the operands is refused, by either method (R224). -/
theorem issue_overOperands {sz : ElemSize} {ad : Addressing} {sps : List Spec} {s : State} {o : Operands} {pa : Fin 64 → Nat}
    (hruns : Runs (.store sz ad) sps o s) (href : References true sz ad (entryOf (.store sz ad) o s) s pa)
    {k : Fin 64} (hk : Active s o k) {g : Nat} (hg : g ∈ o.guards) (hover : pa k ≤ g ∧ g < pa k + sz.bytes) :
    issue (.store sz ad) sps s = .refused .storeOverlapsOperands := by
  obtain ⟨ho, hi, hq, ha, hl⟩ := hruns
  have hopen : (View.openElems ⟨s.vp, {}⟩ (sentEntry (.store sz ad) o s)).getLsbD k = true :=
    (openElems_sentEntry rfl o hq.2.1 k).mpr hk
  have hpass (i : Fin 64) (h : (View.openElems ⟨s.vp, {}⟩ (sentEntry (.store sz ad) o s)).getLsbD i = true) :
      (entryOf (.store sz ad) o s).isActive s.vp.vmr i = true := by
    rw [getLsbD_openElems, Bool.and_eq_true] at h
    exact h.2
  have hs := evalOperands_frame _ _ _ _ _ ho
  obtain ⟨hcfg, hvp, -⟩ := hs.fields
  cases hasync : s.cfg.isAsync with
  | true =>
    let queued : State := { afterOperands o with
      vp := { s.vp with queue := [{ sentEntry (.store sz ad) o s with started := true }] }, draws := o.state.draws + 512 }
    have hwalk : SameWalk s queued := ⟨hcfg, hs.sameWalk.2.1, hs.sameWalk.2.2.1, rfl, rfl⟩
    have hstop : runElems 0 allElements none queued = .refused .storeOverlapsOperands := by
      refine runElems_overOperands (s := queued) (e := { sentEntry (.store sz ad) o s with started := true })
        (fun i h pick => ?_) hopen hg hover rfl (sentEntry_len _ o s hq.2.1 fun _ => hl) rfl rfl rfl
      rw [hwalk.checkRef, hwalk.vectorRow]
      exact href i (hpass i h) pick
    have hne : View.openElems ⟨s.vp, {}⟩ (sentEntry (.store sz ad) o s) ≠ 0 := fun h0 => by simp [h0] at hopen
    rw [(issue_move _ sps s o ho hi hq ha hl hasync).2 hne]
    exact congrArg (fun r => andThen r fun t => .next t.flushVector) hstop
  | false =>
    have hqo : o.state.vp.queue = [] := by rw [hvp]; exact hq.2.1
    have hasync' : o.state.spend.cfg.isAsync = false := by rw [State.spend_cfg, hcfg]; exact hasync
    have hwalk : SameWalk s o.state.spend := hs.sameWalk
    have hstop : checkAtIssue sz ad true (sentEntry (.store sz ad) o s) o.next s o.state.spend =
        .refused .storeOverlapsOperands := by
      refine checkAtIssue_overOperands (s := o.state.spend) (e := sentEntry (.store sz ad) o s) (k := k) (fun i h pick => ?_)
        (by rw [State.spend_vp, hvp]; exact hopen) hg hover hqo _ _
      rw [State.spend_vp, hvp] at h ⊢
      rw [hwalk.checkRef, hwalk.vectorRow]
      exact href i (hpass i h) pick
    rw [issue_send _ sps s o ho hi hq ha fun _ => hl, send, queueFull_empty _ hqo, if_neg Bool.false_ne_true]
    simp only [hasync']
    exact hstop

/-! ### Code that a vector store wrote -/

theorem takeLE_suffix {n : Nat} {bs rest : List Byte} {v : Nat} (h : takeLE n bs = some (v, rest)) : rest <:+ bs := by
  induction n generalizing bs v rest with
  | zero => cases h; exact List.suffix_rfl
  | succ n ih =>
    cases bs with
    | nil => cases h
    | cons b bs =>
      unfold takeLE at h
      split at h
      · rename_i hrest
        cases h
        exact (ih hrest).trans (List.suffix_cons b bs)
      · cases h

theorem withConstant_suffix {n : Nat} {bs rest : List Byte} {f : Nat → Base} {b : Base}
    (h : withConstant n bs f = .ok (b, rest)) : rest <:+ bs := by
  unfold withConstant at h
  split at h
  · rename_i hrest
    cases h
    exact takeLE_suffix hrest
  · cases h

theorem parseBase_suffix {m : Byte} {bs rest : List Byte} {b : Base} (h : parseBase m bs = .ok (b, rest)) : rest <:+ bs := by
  unfold parseBase at h
  simp only at h
  split at h
  case h_1 | h_2 => cases h; exact List.suffix_rfl
  case h_3 =>
    split at h <;> cases h
    exact List.suffix_rfl
  case h_4 =>
    split at h
    · exact withConstant_suffix h
    · cases h; exact List.suffix_rfl
  case h_11 => cases h
  all_goals exact withConstant_suffix h

theorem parseSpec_suffix {size : Nat} {bs rest : List Byte} {sp : Spec} (h : parseSpec size bs = .ok (sp, rest)) :
    rest <:+ bs := by
  cases bs with
  | nil => cases h
  | cons b bs =>
    refine List.IsSuffix.trans ?_ (List.suffix_cons b bs)
    simp only [parseSpec] at h
    split at h
    · cases h; exact List.suffix_rfl
    · split at h
      · split at h
        · cases h
        · rename_i b' bs'
          split at h <;> cases h
          rename_i hbase
          exact (parseBase_suffix hbase).trans (List.suffix_cons b' bs')
      · split at h
        · cases h; exact List.suffix_rfl
        · split at h
          · split at h <;> cases h
            rename_i hrest
            exact takeLE_suffix hrest
          · split at h <;> cases h
            rename_i hbase
            exact parseBase_suffix hbase

theorem parseSpecs_suffix {accs : List Access} {bs rest : List Byte} {sps : List Spec}
    (h : parseSpecs accs bs = .ok (sps, rest)) : rest <:+ bs := by
  induction accs generalizing bs sps rest with
  | nil => cases h; exact List.suffix_rfl
  | cons a as ih =>
    unfold parseSpecs at h
    split at h
    · cases h
    · rename_i hspec
      split at h <;> cases h
      rename_i hspecs
      exact (ih hspecs).trans (parseSpec_suffix hspec)

theorem decodeVector_suffix {r : RegNums} {bs rest : List Byte} {i : Instr} (h : decodeVector r bs = .ok (i, rest)) :
    rest <:+ bs := by
  cases bs with
  | nil => cases h
  | cons op bs =>
    refine List.IsSuffix.trans ?_ (List.suffix_cons op bs)
    simp only [decodeVector] at h
    split at h
    · cases h
    · split at h
      · cases h
      · rename_i hspecs
        split at h <;> cases h
        exact parseSpecs_suffix hspecs

theorem decodeTwo_suffix {accs : List Access} {bs rest : List Byte} {f : Spec → Spec → ScalarInstr} {i : ScalarInstr}
    (h : decodeTwo accs bs f = .ok (i, rest)) : rest <:+ bs := by
  unfold decodeTwo at h
  split at h <;> cases h
  rename_i hspecs
  exact parseSpecs_suffix hspecs

/-- Every instruction takes its first byte, at least (R131). -/
theorem decode_length_pos {r : RegNums} {bs : List Byte} {d : Decoded} {len : Nat} (h : decode r bs = .ok (d, len)) : 0 < len := by
  cases bs with
  | nil => cases h
  | cons b bs =>
    have htail : ∀ d rest, decodeBytes r (b :: bs) = .ok (d, rest) → rest <:+ bs := by
      intro d rest hd
      simp only [decodeBytes] at hd
      split at hd
      case h_1 =>
        split at hd <;> cases hd
        rename_i hi
        exact decodeVector_suffix hi
      case h_2 | h_3 =>
        split at hd <;> cases hd
        rename_i hi
        exact decodeTwo_suffix hi
      case h_4 => cases hd; exact List.suffix_rfl
      case h_5 => cases hd
    unfold decode at h
    split at h <;> cases h
    rename_i rest hd
    have hle := (htail d rest hd).length_le
    rw [List.length_cons]
    omega

/-- Decoding that fails has looked at the first byte, where there is one. -/
theorem examined_pos {fails : List Byte → Option DecodeError} (hf : fails [] = some .truncated)
    (e : DecodeError) {bs : List Byte} (hb : bs ≠ []) : 0 < examined fails e bs := by
  have hlen : 0 < bs.length := List.length_pos_iff.mpr hb
  unfold examined
  split
  · exact hlen
  · rename_i he
    cases hfind : (List.range bs.length).find? fun n => decide (fails (bs.take n) = some e) with
    | none => exact hlen
    | some n =>
      refine Nat.pos_of_ne_zero fun h0 => he ?_
      subst h0
      have hn := List.find?_some hfind
      rw [List.take_zero, hf, decide_eq_true_eq] at hn
      exact (Option.some.inj hn).symm

/-- Fetching begins at the byte that the PC translates to (R118). -/
theorem fetchBytes_succ {s : State} {va : Long} {pa : Nat} (h : scalarTranslate s s.mode false va = .ok pa) (n : Nat) :
    fetchBytes s (n + 1) va = ⟨s.scalarByte pa :: (fetchBytes s n (va + 1)).bytes, pa :: (fetchBytes s n (va + 1)).pas,
      (fetchBytes s n (va + 1)).stop⟩ := by
  simp only [fetchBytes, h]

/-- An instruction whose first byte a vector store wrote is refused, whatever the bytes are (R118). -/
theorem fetchDecode_overwritten {s : State} {pa : Nat} (h : scalarTranslate s s.mode false s.cpu.pc = .ok pa)
    (hw : pa ∈ s.vstores) : fetchDecode s = .out (.refused .codeOverwritten) := by
  have hfetch : fetchBytes s maxLength s.cpu.pc = _ := fetchBytes_succ h 19
  have hover (n : Nat) (hn : 0 < n) : overwritten s (fetchBytes s maxLength s.cpu.pc) n = true := by
    obtain ⟨n, rfl⟩ := Nat.exists_eq_succ_of_ne_zero hn.ne'
    rw [hfetch, overwritten, List.take_succ_cons, List.any_cons, List.contains_iff_mem.mpr hw, Bool.true_or]
  unfold fetchDecode
  simp only
  split
  · rw [if_pos (hover _ (examined_pos rfl _ (by rw [hfetch]; exact List.cons_ne_nil _ _)))]
  · rename_i hd
    rw [if_pos (hover _ (decode_length_pos hd))]

/-- Settles O45: of the store the checks find the operands under one of the references that pass; of the code the first byte
counts, however the bytes decode. -/
theorem refusedOverwrites : Obligations.RefusedOverwrites := by
  refine ⟨fun c b x i sz ad sps s o pa hmem hruns href ⟨k, hk, g, hg, hover⟩ => ?_, fun s s' pa ha ht hw => ?_⟩
  · rw [exec_storeForm hmem]
    exact issue_overOperands hruns href hk hg hover
  · rw [step, ha, andThen_next, fetchDecode_overwritten ht hw]

end Sys2Proof.Machine
end

section
/-! The order of accesses that VSYNC gives, and that nothing but data gives without one (R100, R103, R104, R107, R365). -/

namespace Sys2Proof.Machine

/-! ### VSYNC on an idle vector processor -/

/-- An instruction that its register number selects is issued as what it is (R350). -/
theorem issueByRegnum_eq_issue {accs : List Access} {sel : Word → Option VOp} {sps : List Spec} {s : State} {o : Operands}
    {op : VOp} (ho : evalOperands 2 accs sps s = .ok o) (ha : op.accesses = accs)
    (hsel : sel ((o.value 0).truncate 16) = some op) : issueByRegnum accs sel sps s = issue op sps s := by
  subst ha
  simp only [issueByRegnum, issue, withVectorOperands, ho, hsel]

/-- What VSYNC makes of the registers: the places stored under an unreported exception are behind it (R198). -/
theorem executed_vsync {e : QEntry} (p : Vp) (hop : e.op = .vsync) (hl : e.len = 0) (hc : e.copy = none) :
    executed e p = { p with
      taint := { p.taint with stored := [], synced := p.taint.stored ++ p.taint.synced } } := by
  rw [executed_idle e p (openElems_of_len_zero p e hl) (fun h => by rw [hop] at h; cases h), settle_none hc, QEntry.settleOn, hop]

/-- VSYNC with its register number, where nothing is queued (R365). -/
theorem exec_vsync {a : Spec} {s : State} {o : Operands} (ho : evalOperands 2 [.rw] [a] s = .ok o) (hi : Issuable s)
    (hq : Quiet s) (hn : (o.value 0).truncate 16 = s.cfg.regnum.vsync) :
    exec (.vsync a) s = .next { afterOperands o with
      vp := { s.vp with
        taint := { s.vp.taint with stored := [], synced := s.vp.taint.stored ++ s.vp.taint.synced } }
      draws := o.state.draws + 512 } := by
  have hissue : exec (.vsync a) s = issue .vsync [a] s :=
    issueByRegnum_eq_issue (sel := fun n => if n = s.cfg.regnum.vsync then some .vsync else none) ho rfl (if_pos hn)
  have hcntrl : (entryOf .vsync o s).cntrl = 0 := rfl
  have haccept : Acceptable .vsync [a] o s := by simp [Acceptable, staticStop, hcntrl, VOp.floatScalar, VOp.isMemory]
  rw [hissue, issue_operate .vsync [a] s o ho hi hq haccept rfl (fun h => Bool.noConfusion h),
    executed_vsync s.vp rfl rfl rfl]

/-! ### What stands before a VSYNC -/

/-- The instructions that `beforeVsync` counts are those with a VSYNC behind them. -/
theorem lt_beforeVsync {q : List QEntry} {j v : Nat} {e : QEntry} (hj : j < v) (hv : q[v]? = some e) (hop : e.op = .vsync) :
    j < beforeVsync q := by
  obtain ⟨hlt, hget⟩ := List.getElem?_eq_some_iff.mp hv
  unfold beforeVsync
  have hrev : q.reverse[q.length - 1 - v]? = some e := by
    rw [List.getElem?_reverse (by omega)]
    rwa [show q.length - 1 - (q.length - 1 - v) = v by omega]
  cases hfind : q.reverse.findIdx? fun e => decide (e.op = .vsync) with
  | none =>
    have := List.findIdx?_eq_none_iff.mp hfind e (List.mem_of_getElem? hrev)
    simp [hop] at this
  | some n =>
    have hle : n ≤ q.length - 1 - v := by
      obtain ⟨_, _, hfirst⟩ := List.findIdx?_eq_some_iff_getElem.mp hfind
      by_contra hlt'
      obtain ⟨hlen, hget'⟩ := List.getElem?_eq_some_iff.mp hrev
      exact hfirst (q.length - 1 - v) (by omega) (by rw [hget', hop]; rfl)
    rw [Option.getD_some]
    omega

theorem beforeVsync_eq_zero {q : List QEntry} (h : ∀ e ∈ q, e.op ≠ .vsync) : beforeVsync q = 0 := by
  have hfind : (q.reverse.findIdx? fun e => decide (e.op = .vsync)) = none :=
    List.findIdx?_eq_none_iff.mpr fun e he => by simpa using h e (List.mem_reverse.mp he)
  simp [beforeVsync, hfind]

theorem beforeVsync_le (q : List QEntry) : beforeVsync q ≤ q.length := Nat.sub_le ..

/-- Each of the oldest instructions with its view. -/
theorem mem_entryViews_take {s : State} {n : Nat} {x : View × QEntry} :
    x ∈ (entryViews s).take n ↔ ∃ j e, j < n ∧ s.vp.queue[j]? = some e ∧ x = (viewAt s j e, e) := by
  rw [List.mem_iff_getElem?]
  simp only [entryViews, List.getElem?_take, List.getElem?_mapIdx]
  constructor
  · rintro ⟨j, hj⟩
    split at hj
    · obtain ⟨e, he, hx⟩ := Option.map_eq_some_iff.mp hj
      exact ⟨j, e, by assumption, he, hx.symm⟩
    · cases hj
  · rintro ⟨j, e, hj, he, rfl⟩
    exact ⟨j, by rw [if_pos hj, he]; rfl⟩

theorem VOp.isMemory_of_access {op : VOp} {acc : ElemSize × Addressing × Bool} (h : op.access = some acc) :
    op.isMemory = true := by
  cases op <;> cases h <;> rfl

/-- An access does not happen before an open one that a VSYNC separates from it, if they may conflict (R103). -/
theorem orderAllows_of_conflict {s : State} {j v k : Nat} {ej ev ek : QEntry} {x y : Spot} {l i : Fin 64} (hjv : j < v)
    (hvk : v < k) (hj : s.vp.queue[j]? = some ej) (hv : s.vp.queue[v]? = some ev) (hop : ev.op = .vsync)
    (hopen : ((viewAt s j ej).openElems ej).getLsbD l = true) (hx : spotOf s (viewAt s j ej) ej l = some x)
    (hy : spotOf s (viewAt s k ek) ek i = some y) (hc : x.conflicts y = true) :
    orderAllows s k (viewAt s k ek) ek i = false := by
  have hbefore : j < beforeVsync (s.vp.queue.take k) :=
    lt_beforeVsync hjv (by rw [List.getElem?_take, if_pos hvk]; exact hv) hop
  have hmem := mem_entryViews_take.mpr ⟨j, ej, hbefore, hj, rfl⟩
  have haccess : ∃ acc, ej.op.access = some acc := by
    unfold spotOf at hx
    split at hx
    · cases hx
    · exact ⟨_, by assumption⟩
  obtain ⟨acc, hacc⟩ := haccess
  have hmemory : ej.op.isMemory = true := VOp.isMemory_of_access hacc
  have hstands : standsBefore s (viewAt s j ej) ej l [y] = true := by
    simp [standsBefore, hopen, hacc, hx, hc]
  have hany : ((entryViews s).take (beforeVsync (s.vp.queue.take k))).any (fun x =>
      x.2.op.isMemory && (List.finRange 64).any fun l => standsBefore s x.1 x.2 l [y]) = true := by
    refine List.any_eq_true.mpr ⟨_, hmem, ?_⟩
    rw [hmemory, Bool.true_and]
    exact List.any_eq_true.mpr ⟨l, List.mem_finRange l, hstands⟩
  unfold orderAllows
  rw [hy]
  simp only [hany, Bool.not_true]

/-- What the order does not allow does not execute (R103). -/
theorem runElems_not_allowed {s : State} {k : Nat} {e : QEntry} {i : Fin 64} (hk : s.vp.queue[k]? = some e)
    (h : orderAllows s k (viewAt s k e) e i = false) (m : Quad) (part : Option Nat) :
    runElems k m part s = runElems k (m &&& ~~~(1#64 <<< i.val)) part s := by
  have hnow : runnable s k (viewAt s k e) e &&& (m &&& ~~~(1#64 <<< i.val)) = runnable s k (viewAt s k e) e &&& m := by
    refine BitVec.eq_of_getLsbD_eq fun b hb => ?_
    by_cases hbi : b = i.val
    · subst hbi
      have hrun : (runnable s k (viewAt s k e) e).getLsbD i = false := by
        have hfin : Fin.ofNat 64 i.val = i := Fin.ofNat_val_eq_self i
        rw [runnable, getLsbD_maskOf, hfin, h, Bool.and_false, Bool.and_false]
      simp only [BitVec.getLsbD_and, hrun, Bool.false_and]
    · have hbit : (~~~(1#64 <<< i.val)).getLsbD b = true := by
        simp [hb]
        omega
      rw [BitVec.getLsbD_and, BitVec.getLsbD_and, hbit, Bool.and_true, BitVec.getLsbD_and]
  simp only [runElems, hk, hnow]

/-- An access writes if its instruction is a store. -/
theorem VOp.access_write {op : VOp} {acc : ElemSize × Addressing × Bool} (h : op.access = some acc) :
    acc.2.2 = true ↔ ∃ sz ad, op = .store sz ad := by
  cases op <;> cases h <;> simp

/-- The spot of a memory instruction's element writes if the instruction is a store. -/
theorem spotOf_write {s : State} {w : View} {e : QEntry} {i : Fin 64} {y : Spot} (h : spotOf s w e i = some y) :
    y.write = true ↔ ∃ sz ad, e.op = .store sz ad := by
  unfold spotOf at h
  split at h
  · cases h
  · next sz ad write hacc =>
    split at h
    · cases h
      exact VOp.access_write hacc
    · cases h

/-- Two loads do not conflict, even where an address is not known yet (R103). -/
theorem standsBefore_loads {s : State} {w : View} {o : QEntry} {y : Spot} (ho : ∀ sz ad, o.op ≠ .store sz ad)
    (hy : y.write = false) (l : Fin 64) : standsBefore s w o l [y] = false := by
  have hstore : ¬ ∃ sz ad, o.op = .store sz ad := fun ⟨sz, ad, h⟩ => ho sz ad h
  unfold standsBefore
  rw [List.any_cons, List.any_nil, Bool.or_false]
  cases hacc : o.op.access with
  | none => exact Bool.and_false _
  | some acc =>
    cases hspot : spotOf s w o l with
    | none =>
      have hread : acc.2.2 = false := by simpa using fun h => hstore ((VOp.access_write hacc).mp h)
      simp [hy, hread]
    | some x =>
      have hread : x.write = false := by simpa using fun h => hstore ((spotOf_write hspot).mp h)
      simp [Spot.conflicts, hy, hread]

/-- Where nothing older is a store a load's accesses wait for none (R103). -/
theorem orderAllows_load {s : State} {k : Nat} {e : QEntry} {sz : ElemSize} {ad : Addressing} (w : View) (i : Fin 64)
    (hop : e.op = .load sz ad) (hold : ∀ o ∈ s.vp.queue.take k, ∀ sz' ad', o.op ≠ .store sz' ad') :
    orderAllows s k w e i = true := by
  unfold orderAllows
  split
  · rfl
  · next y hspot =>
    have hread : y.write = false := by
      have hload : ¬ ∃ sz' ad', e.op = .store sz' ad' := by simp [hop]
      simpa using fun h => hload ((spotOf_write hspot).mp h)
    rw [Bool.not_eq_true', List.any_eq_false]
    intro x hx
    obtain ⟨j, o, hj, ho, rfl⟩ := mem_entryViews_take.mp hx
    have hjk : j < k := by
      have := beforeVsync_le (s.vp.queue.take k)
      rw [List.length_take] at this
      omega
    have hmem : o ∈ s.vp.queue.take k := List.mem_iff_getElem?.mpr ⟨j, by rw [List.getElem?_take, if_pos hjk]; exact ho⟩
    have hnone : ((List.finRange 64).any fun l => standsBefore s (viewAt s j o) o l [y]) = false :=
      List.any_eq_false.mpr fun l _ => by rw [standsBefore_loads (hold o hmem) hread l]; exact Bool.false_ne_true
    rw [hnone, Bool.and_false]
    exact Bool.false_ne_true

/-! ### No order without a VSYNC -/

/-- Where no VSYNC stands before an instruction its accesses wait for none (R100, R104). -/
theorem orderAllows_without_vsync {s : State} {k : Nat} (hold : ∀ e ∈ s.vp.queue.take k, e.op ≠ .vsync) (w : View) (e : QEntry)
    (i : Fin 64) : orderAllows s k w e i = true := by
  unfold orderAllows
  rw [beforeVsync_eq_zero hold]
  split <;> rfl

/-- With no exception met nothing is held up (R413, R172). -/
theorem heldUp_of_no_fault {p : Vp} (h : ∀ e ∈ p.queue, e.fault = none) (k : Nat) (e : QEntry) : heldUp p k e = false := by
  refine List.any_eq_false.mpr fun x hx => ?_
  have hfault : x.1.fault = none := h _ (List.fst_mem_of_mem_zipIdx hx)
  simp [QEntry.suspended, QEntry.retrying, hfault]

/-- With no exception met and no hardware error every instruction may execute (R53, R413, R423). -/
theorem mayRun_of_no_fault {s : State} (h : ∀ e ∈ s.vp.queue, e.fault = none) (hh : s.vp.halted = false) {k : Nat} {e : QEntry}
    (hk : s.vp.queue[k]? = some e) : mayRun s k e = true := by
  have hfault : e.fault = none := h e (List.mem_of_getElem? hk)
  have hstart : mayStart s k e = true := by simp [mayStart, heldUp_of_no_fault h]
  simp [mayRun, hstart, hh, QEntry.suspended, hfault]

/-- Settles O31: an open access before a VSYNC stops a conflicting one behind it in `orderAllows`, which without a store or
without a VSYNC allows every access. -/
theorem vsyncOrders : Obligations.VsyncOrders := by
  refine ⟨fun a s o ho hi hq hn => ?_, ?_, ?_, ?_⟩
  · exact ⟨_, exec_vsync ho hi hq hn, rfl, rfl, rfl⟩
  · intro s j v k ej ev ek x y l i hjv hvk hj hv hk hop hopen hx hy hc m part
    exact runElems_not_allowed hk (orderAllows_of_conflict hjv hvk hj hv hop hopen hx hy hc) m part
  · intro s k ek sz ad i _ hop hold
    exact orderAllows_load _ i hop hold
  · intro s k ek hk hold hfault hhalted w
    refine ⟨fun elems part => ?_, fun i => ?_⟩
    · simp only [runEntry, hk, mayRun_of_no_fault hfault hhalted hk, if_true]
    · rw [runnable, getLsbD_maskOf, orderAllows_without_vsync hold, Bool.and_true, decide_eq_true i.isLt, Bool.true_and]

end Sys2Proof.Machine
end

section
/-! What the addressing modes give (R134, R148): a memory operand is the datum at the address that its specifier names. -/

namespace Sys2Proof.Machine

/-! ### Reads do not depend on the general registers -/

theorem scalarTranslate_registersOnly {s t : State} (h : RegistersOnly s t) (mode : BitVec 2) (write : Bool) (va : Long) :
    scalarTranslate t mode write va = scalarTranslate s mode write va := by
  rw [h]
  rfl

theorem scalarTranslateBytes_registersOnly {s t : State} (h : RegistersOnly s t) (mode : BitVec 2) (write : Bool) (va : Long)
    (n : Nat) : scalarTranslateBytes t mode write va n = scalarTranslateBytes s mode write va n := by
  induction n generalizing va with
  | zero => rfl
  | succ n ih => simp only [scalarTranslateBytes, scalarTranslate_registersOnly h, ih]

theorem State.mode_registersOnly {s t : State} (h : RegistersOnly s t) : t.mode = s.mode := by
  rw [h]
  rfl

/-- Completing a write needs no general register and changes none. -/
theorem RegistersOnly.completeWrite {s t : State} (h : RegistersOnly s t) (u : List Host.Cell) :
    RegistersOnly (s.completeWrite u) (t.completeWrite u) := by
  rw [h]
  unfold State.completeWrite
  dsimp only
  split <;> rfl

theorem RegistersOnly.races {s t : State} (h : RegistersOnly s t) : t.races = s.races := by rw [h]

theorem RegistersOnly.seenAt {s t : State} (h : RegistersOnly s t) (n : Nat) : RegistersOnly (s.seenAt n) (t.seenAt n) := by
  have hraces := h.races
  unfold State.seenAt
  rw [hraces]
  generalize s.races.filter _ = l
  induction l generalizing s t with
  | nil => exact h
  | cons r l ih =>
    have hnext := h.completeWrite r.2
    exact ih hnext hnext.races

theorem RegistersOnly.scalarRead {s t : State} (h : RegistersOnly s t) (pas : List Nat) : t.scalarRead pas = s.scalarRead pas := by
  induction pas with
  | nil => rfl
  | cons a as ih =>
    have hbyte : t.scalarByte a = s.scalarByte a := by
      rw [h]
      rfl
    rw [State.scalarRead, State.scalarRead, hbyte, ih]

/-! ### Operands in memory -/

/-- An operand that is read: of 2, 4 or 8 bytes. -/
def IsSource (acc : Access) : Prop := acc = .rw ∨ acc = .rl ∨ acc = .rq

/-- A source operand at an address is the datum there. -/
theorem evalMemory_source {k : Nat} {acc : Access} {s : State} {g : Gathered Long} {pas : List Nat} (hacc : IsSource acc)
    (hg : RegistersOnly s g.state) (hpas : scalarTranslateBytes s s.mode false g.result acc.size = .ok pas) :
    evalMemory k acc g =
      .ok ⟨.value (BitVec.ofNat 64 ((s.seenAt (2 * k + 1)).scalarRead pas)), g.state, g.guards ++ pas⟩ := by
  have hload : scalarLoad (2 * k + 1) g.state g.result acc.size = .ok ((s.seenAt (2 * k + 1)).scalarRead pas, pas) := by
    rw [scalarLoad, scalarTranslateBytes_registersOnly hg, State.mode_registersOnly hg, hpas, ← (hg.seenAt _).scalarRead]
    rfl
  rcases hacc with rfl | rfl | rfl <;> simp only [evalMemory, hload, Eval.bind]

/-- A memory specifier reads the datum at the address that it names (R134). -/
theorem Reads.mem {k : Nat} {acc : Access} {b : Base} {cursor : Long} {s t : State} {a : Long} {guards : List Nat}
    (hacc : IsSource acc) (hb : evalBase k acc.size b cursor s = .ok ⟨a, t, guards⟩) :
    Reads k acc (.mem b) cursor s t a guards := by
  intro pas hpas
  rw [evalSpec, hb]
  exact evalMemory_source hacc (evalBase_frame _ _ _ _ _ _ hb) hpas

/-- An indexed specifier reads the datum at its base's address plus the index times the size (R134). -/
theorem Reads.indexed {k : Nat} {acc : Access} {x : RegNo} {b : Base} {cursor : Long} {s : State} {g : Gathered Long}
    (hacc : IsSource acc) (hb : evalBase k acc.size b cursor s = .ok g) :
    Reads k acc (.indexed x b) cursor s g.state (g.result + g.state.cpu.readReg x cursor * BitVec.ofNat 32 acc.size)
      g.guards := by
  intro pas hpas
  rw [evalSpec, hb]
  have hregs : RegistersOnly s g.state := evalBase_frame _ _ _ _ _ _ hb
  exact evalMemory_source (g := { g with result := _ }) hacc hregs hpas

/-- A deferred mode gives the longword that is stored at its address. -/
theorem deferred_eq {k : Nat} {s t : State} {va : Long} {pas : List Nat} (ht : RegistersOnly s t)
    (hpas : scalarTranslateBytes s s.mode false va 4 = .ok pas) :
    deferred k t va = .ok ⟨BitVec.ofNat 32 ((s.seenAt (2 * k)).scalarRead pas), t, pas⟩ := by
  rw [deferred, scalarLoad, scalarTranslateBytes_registersOnly ht, State.mode_registersOnly ht, hpas,
    ← (ht.seenAt _).scalarRead]
  rfl

/-- The deferred modes: the datum at the address that is stored at an address (R134). -/
theorem Reads.deferred {k : Nat} {acc : Access} {b : Base} {cursor : Long} {s t : State} {va : Long} {pas : List Nat}
    (hacc : IsSource acc) (ht : RegistersOnly s t) (hb : evalBase k acc.size b cursor s = deferred k t va)
    (hpas : scalarTranslateBytes s s.mode false va 4 = .ok pas) :
    Reads k acc (.mem b) cursor s t (BitVec.ofNat 32 ((s.seenAt (2 * k)).scalarRead pas)) pas :=
  Reads.mem hacc (hb.trans (deferred_eq ht hpas))

/-! ### Literals, constants and registers -/

theorem evalSpec_literal {acc : Access} (hacc : IsSource acc) (k : Nat) (m : List RegNo) (v : BitVec 6) (cursor : Long)
    (s : State) : evalSpec k acc m (.literal v) cursor s = .ok ⟨.value (v.zeroExtend 64), s, []⟩ := by
  rcases hacc with rfl | rfl | rfl <;> rfl

theorem evalSpec_immediate {acc : Access} (hacc : IsSource acc) (k : Nat) (m : List RegNo) (v : Quad) (cursor : Long)
    (s : State) : evalSpec k acc m (.immediate v) cursor s = .ok ⟨.value v, s, []⟩ := by
  rcases hacc with rfl | rfl | rfl <;> rfl

/-- A register that no addressing mode of the instruction modifies is read as it is (R134). -/
theorem evalSpec_reg {acc : Access} (hacc : IsSource acc) (k : Nat) (n : RegNo) (cursor : Long) (s : State) :
    evalSpec k acc [] (.reg n) cursor s = .ok (registerValue acc.size n cursor s) := by
  have hkept : unpredictableRegister acc.size n [] = false := by simp [unpredictableRegister]
  rcases hacc with rfl | rfl | rfl <;> simp only [evalSpec, hkept, Bool.false_eq_true, if_false]

/-- Settles O10: `Reads.mem`, `Reads.indexed` and `Reads.deferred` at the address that `evalBase` gives for each mode. -/
theorem operandModes : Obligations.OperandModes := by
  refine ⟨fun k acc cursor s hacc => ⟨?_, ?_, ?_, ?_, ?_, ?_, ?_, ?_⟩, ?_, ?_⟩
  · intro v
    exact evalSpec_literal hacc k [] v cursor s
  · intro v
    exact evalSpec_immediate hacc k [] v cursor s
  · intro n hlong
    have hsize : acc.size ≠ 8 := by rcases hacc with rfl | rfl | rfl <;> simp_all [Access.size]
    rw [evalSpec_reg hacc, registerValue, if_neg hsize]
  · rintro n rfl hn
    rw [evalSpec_reg hacc, registerValue, if_pos (show Access.rq.size = 8 from rfl), if_neg hn]
  · intro n
    exact ⟨Reads.mem hacc rfl, Reads.mem hacc rfl, Reads.mem hacc rfl⟩
  · intro n d8 d16 d32 a
    exact ⟨Reads.mem hacc rfl, Reads.mem hacc rfl, Reads.mem hacc rfl, Reads.mem hacc rfl⟩
  · rintro n b at' t pas (⟨d, rfl, rfl, rfl⟩ | ⟨d, rfl, rfl, rfl⟩ | ⟨d, rfl, rfl, rfl⟩ | ⟨rfl, rfl, rfl⟩) hpas
    · exact Reads.deferred hacc (RegistersOnly.rfl' _) rfl hpas
    · exact Reads.deferred hacc (RegistersOnly.rfl' _) rfl hpas
    · exact Reads.deferred hacc (RegistersOnly.rfl' _) rfl hpas
    · exact Reads.deferred hacc (setReg_registersOnly ..) rfl hpas
  · intro x b g hb
    exact Reads.indexed hacc hb
  · intro k cursor s n x d a
    refine ⟨rfl, rfl, rfl, rfl, rfl, ?_⟩
    simp [evalSpec, evalBase, Eval.bind, evalMemory, Access.size]
  · intro s n u hraces m
    rw [State.seenAt, hraces]
    by_cases hn : n ≤ m <;> simp [hn]

end Sys2Proof.Machine
end

section
/-! The retry of what is suspended (R172, R415, R417): an instruction that is issued with MF set does what it does where that
has been asked for before it. -/

namespace Sys2Proof.Machine

/-! ### Operands and the vector processor: only its writes that are not visible yet matter to them -/

theorem State.completeWrite_setVp {s : State} {p : Vp} (hp : p.vbuf = s.vp.vbuf) (u : List Host.Cell) :
    (s.setVp p).completeWrite u = (s.completeWrite u).setVp { p with vbuf := (s.completeWrite u).vp.vbuf } := by
  have hself : p = { p with vbuf := s.vp.vbuf } := by rw [← hp]
  unfold State.completeWrite
  rw [State.setVp_vp, hp]
  split
  · exact congrArg s.setVp hself
  · rfl

theorem State.seenAt_setVp {s : State} {p : Vp} (hp : p.vbuf = s.vp.vbuf) (n : Nat) :
    ∃ q, (s.setVp p).seenAt n = (s.seenAt n).setVp q := by
  unfold State.seenAt
  rw [State.setVp_races]
  generalize s.races.filter _ = l
  induction l generalizing s p with
  | nil => exact ⟨p, rfl⟩
  | cons r l ih =>
    rw [List.foldl_cons, List.foldl_cons, State.completeWrite_setVp hp]
    exact ih rfl

theorem State.scalarRead_setVp (s : State) (p : Vp) (pas : List Nat) : (s.setVp p).scalarRead pas = s.scalarRead pas := by
  induction pas with
  | nil => rfl
  | cons a as ih =>
    rw [State.scalarRead, State.scalarRead, ih]
    rfl

theorem scalarTranslateBytes_setVp (s : State) (p : Vp) (mode : BitVec 2) (write : Bool) (va : Long) (n : Nat) :
    scalarTranslateBytes (s.setVp p) mode write va n = scalarTranslateBytes s mode write va n := by
  induction n generalizing va with
  | zero => rfl
  | succ n ih =>
    simp only [scalarTranslateBytes, ih]
    rfl

theorem scalarLoad_setVp {s : State} {p : Vp} (hp : p.vbuf = s.vp.vbuf) (k : Nat) (va : Long) (n : Nat) :
    scalarLoad k (s.setVp p) va n = scalarLoad k s va n := by
  obtain ⟨q, hq⟩ := State.seenAt_setVp hp k
  simp only [scalarLoad, scalarTranslateBytes_setVp, hq, State.scalarRead_setVp]
  rfl

/-- Operands while they are evaluated, with another vector processor. -/
def Gathered.setVp {α : Type} (p : Vp) (g : Gathered α) : Gathered α := { g with state := g.state.setVp p }

/-- Evaluated operands, with another vector processor. -/
def Operands.setVp (p : Vp) (o : Operands) : Operands := { o with state := o.state.setVp p }

theorem deferred_setVp {s : State} {p : Vp} (hp : p.vbuf = s.vp.vbuf) {k : Nat} {va : Long} {g : Gathered Long}
    (h : deferred k s va = .ok g) : deferred k (s.setVp p) va = .ok (g.setVp p) := by
  obtain ⟨r, hr, hg⟩ := Eval.bind_eq_ok _ _ _ h
  cases hg
  simp only [deferred, scalarLoad_setVp hp, hr]
  rfl

theorem evalBase_setVp {s : State} {p : Vp} (hp : p.vbuf = s.vp.vbuf) {k size : Nat} {b : Base} {c : Long} {g : Gathered Long}
    (h : evalBase k size b c s = .ok g) : evalBase k size b c (s.setVp p) = .ok (g.setVp p) := by
  cases b
  case autoincDef n => exact deferred_setVp (s := s.setReg n _) hp h
  case disp8Def | disp16Def | disp32Def => exact deferred_setVp hp h
  all_goals
    cases h
    rfl

theorem evalMemory_setVp {k : Nat} {acc : Access} {g : Gathered Long} {r : Gathered Operand} {p : Vp}
    (hp : p.vbuf = g.state.vp.vbuf) (h : evalMemory k acc g = .ok r) : evalMemory k acc (g.setVp p) = .ok (r.setVp p) := by
  cases acc
  case ab =>
    cases h
    rfl
  case wl =>
    obtain ⟨x, hx, hr⟩ := Eval.bind_eq_ok _ _ _ h
    cases hr
    have hx' : Eval.ofXlat (scalarTranslateBytes (g.setVp p).state (g.setVp p).state.mode true (g.setVp p).result 4) =
        .ok x := (congrArg Eval.ofXlat (scalarTranslateBytes_setVp ..)).trans hx
    simp only [evalMemory, hx']
    rfl
  all_goals
    obtain ⟨x, hx, hr⟩ := Eval.bind_eq_ok _ _ _ h
    cases hr
    have hx' := (scalarLoad_setVp hp _ _ _).trans hx
    simp only [evalMemory, Gathered.setVp, hx']
    rfl

theorem registerValue_setVp (size : Nat) (n : RegNo) (c : Long) (s : State) (p : Vp) :
    registerValue size n c (s.setVp p) = (registerValue size n c s).setVp p := by
  unfold registerValue
  dsimp only
  split
  · split <;> rfl
  · rfl

theorem evalSpec_setVp {s : State} {p : Vp} (hp : p.vbuf = s.vp.vbuf) {k : Nat} {acc : Access} {m : List RegNo} {sp : Spec}
    {c : Long} {g : Gathered Operand} (h : evalSpec k acc m sp c s = .ok g) :
    evalSpec k acc m sp c (s.setVp p) = .ok (g.setVp p) := by
  cases sp with
  | literal v =>
    cases acc <;> cases h <;> rfl
  | immediate v =>
    cases acc <;> cases h <;> rfl
  | reg n =>
    cases acc <;> simp only [evalSpec] at h ⊢
    case ab => cases h
    case wl =>
      cases h
      rfl
    all_goals
      split at h
      · next hfree =>
        cases h
        exact if_pos hfree
      · next hkept =>
        cases h
        rw [if_neg hkept, registerValue_setVp]
  | mem b =>
    obtain ⟨g', hb, hm⟩ := Eval.bind_eq_ok _ _ _ h
    have hvp : p.vbuf = g'.state.vp.vbuf := by rw [hp, (evalBase_frame _ _ _ _ _ _ hb).fields.2.1]
    rw [evalSpec, evalBase_setVp hp hb]
    exact evalMemory_setVp hvp hm
  | indexed x b =>
    obtain ⟨g', hb, hm⟩ := Eval.bind_eq_ok _ _ _ h
    have hvp : p.vbuf = g'.state.vp.vbuf := by rw [hp, (evalBase_frame _ _ _ _ _ _ hb).fields.2.1]
    rw [evalSpec, evalBase_setVp hp hb]
    exact evalMemory_setVp (g := { g' with result := _ }) hvp hm

theorem evalSpecs_setVp {m : List RegNo} {p : Vp} {k : Nat} {accs : List Access} {sps : List Spec} {c : Long} {s : State}
    {g : Gathered (List Operand × Long)} (hp : p.vbuf = s.vp.vbuf) (h : evalSpecs m k accs sps c s = .ok g) :
    evalSpecs m k accs sps c (s.setVp p) = .ok (g.setVp p) := by
  induction accs generalizing k sps c s g with
  | nil =>
    cases h
    rfl
  | cons acc accs ih =>
    cases sps with
    | nil =>
      cases h
      rfl
    | cons sp sps =>
      obtain ⟨g1, h1, hrest⟩ := Eval.bind_eq_ok _ _ _ h
      obtain ⟨g2, h2, hg⟩ := Eval.bind_eq_ok _ _ _ hrest
      cases hg
      have hvp : p.vbuf = g1.state.vp.vbuf := by rw [hp, (evalSpec_frame _ _ _ _ _ _ _ h1).fields.2.1]
      have h2' : evalSpecs m (k + 1) accs sps _ (g1.setVp p).state = .ok (g2.setVp p) := ih hvp h2
      simp only [evalSpecs, evalSpec_setVp hp h1, Eval.bind, h2']
      rfl

/-- Of the vector processor the operands depend only on the writes that are not visible yet (R107). -/
theorem evalOperands_setVp {s : State} {p : Vp} (hp : p.vbuf = s.vp.vbuf) {header : Nat} {accs : List Access}
    {sps : List Spec} {o : Operands} (h : evalOperands header accs sps s = .ok o) :
    evalOperands header accs sps (s.setVp p) = .ok (o.setVp p) := by
  obtain ⟨g, hg, ho⟩ := Eval.bind_eq_ok _ _ _ h
  cases ho
  have hg' : evalSpecs (modifiedRegs sps) 0 accs sps ((s.setVp p).cpu.pc + BitVec.ofNat 32 header) (s.setVp p) =
    .ok (g.setVp p) := evalSpecs_setVp hp hg
  have hstream : streamBytes (s.setVp p) = streamBytes s := by
    funext a n
    simp only [streamBytes, scalarTranslateBytes_setVp]
    rfl
  simp only [evalOperands, hg', hstream]
  rfl

/-! ### What MF announces is marked before the instruction -/

/-- Marking for the retry changes the vector processor alone. -/
theorem retrySuspended_eq_setVp (s : State) : retrySuspended s = s.setVp (retrySuspended s).vp := by
  unfold retrySuspended
  split <;> rfl

@[simp] theorem retrySuspended_cfg (s : State) : (retrySuspended s).cfg = s.cfg := by
  rw [retrySuspended_eq_setVp, State.setVp_cfg]

theorem retrySuspended_vbuf (s : State) : (retrySuspended s).vp.vbuf = s.vp.vbuf := by
  unfold retrySuspended
  split <;> rfl

theorem retrySuspended_pmf (s : State) : (retrySuspended s).vp.pmf = s.vp.pmf := by
  unfold retrySuspended
  split
  · exact (getLsbD_setBit s.vp.vpsr (by decide) false 6).trans (if_neg (by decide))
  · rfl

/-- What is marked stays so. -/
theorem retrySuspended_retrySuspended (s : State) : retrySuspended (retrySuspended s) = retrySuspended s := by
  by_cases h : (s.cfg.isAsync && s.vp.mf) = true
  · have hmf : (retrySuspended s).vp.mf = false := by
      rw [retrySuspended, if_pos h]
      exact (getLsbD_setBit s.vp.vpsr (by decide) false 5).trans (if_pos rfl)
    exact retrySuspended_none _ hmf
  · have hself : retrySuspended s = s := if_neg h
    rw [hself, hself]

theorem currentLength_retrySuspended (s : State) : currentLength (retrySuspended s).vp = currentLength s.vp := by
  unfold retrySuspended
  split
  · simp only [currentLength, State.setVp_vp, List.foldl_map]
    congr 1
    funext l e
    cases e.suspended <;> rfl
  · rfl

/-- Marking for the retry depends on the vector processor and the method alone. -/
theorem retrySuspended_setVp {s t : State} (hcfg : t.cfg = s.cfg) (hvp : t.vp = s.vp) :
    t.setVp (retrySuspended s).vp = retrySuspended t := by
  unfold retrySuspended
  rw [hcfg, hvp]
  split
  · rfl
  · rw [← hvp]
    rfl

theorem readyToSend_retrySuspended (s : State) : readyToSend (retrySuspended s) = readyToSend s := by
  rw [readyToSend, retrySuspended_retrySuspended, readyToSend]

/-- What turns an instruction away is not a matter of the retry. -/
theorem turnedAway_retrySuspended {s : State} (h1 : s.cfg.vpPresent = true) (h2 : s.cpu.venSeen = true) (h3 : s.vp.pmf = false)
    (h4 : s.cpu.mapen = true) : turnedAway (retrySuspended s) = turnedAway s := by
  have hcpu : (retrySuspended s).cpu = s.cpu := by rw [retrySuspended_eq_setVp, State.setVp_cpu]
  simp [turnedAway, h1, h2, h3, h4, hcpu, retrySuspended_pmf]

/-- `o` and what the same operands are after the retry has been marked. -/
theorem evalOperands_retrySuspended {s : State} {o : Operands} {header : Nat} {accs : List Access} {sps : List Spec}
    (ho : evalOperands header accs sps s = .ok o) :
    evalOperands header accs sps (retrySuspended s) = .ok { o with state := retrySuspended o.state } := by
  have hf := (evalOperands_frame _ _ _ _ _ ho).fields
  rw [retrySuspended_eq_setVp, evalOperands_setVp (retrySuspended_vbuf s) ho, Operands.setVp,
    retrySuspended_setVp hf.1 hf.2.1]

theorem entryOf_retrySuspended (op : VOp) (o : Operands) (s : State) :
    entryOf op { o with state := retrySuspended o.state } (retrySuspended s) = entryOf op o s := by
  have hmode : (retrySuspended s).mode = s.mode := by rw [retrySuspended_eq_setVp]; rfl
  simp only [entryOf, currentLength_retrySuspended, hmode]
  rfl

theorem issueOp_retrySuspended (op : VOp) (sps : List Spec) (o : Operands) (s : State) :
    issueOp op sps { o with state := retrySuspended o.state } (retrySuspended s) = issueOp op sps o s := by
  have hsend : send (entryOf op o s) o.next (retrySuspended s) = send (entryOf op o s) o.next s := by
    rw [retrySuspended_eq_setVp]
    rfl
  simp only [issueOp, entryOf_retrySuspended, readyToSend_retrySuspended, hsend]

theorem finishMfvp_retrySuspended (fn : MfvpFn) (o : Operands) (orig s : State) :
    finishMfvp fn { o with state := retrySuspended o.state } (retrySuspended orig) s = finishMfvp fn o orig s := by
  rw [retrySuspended_eq_setVp orig]
  rfl

theorem takeBlocked_retrySuspended (orig s : State) : takeBlocked (retrySuspended orig) s = takeBlocked orig s := by
  rw [retrySuspended_eq_setVp orig]
  rfl

section
variable {s : State} {o : Operands} {sps : List Spec}

theorem issue_retrySuspended {op : VOp} (ho : evalOperands 2 op.accesses sps s = .ok o) (ht : turnedAway s = none)
    (ht' : turnedAway (retrySuspended s) = none) : issue op sps s = issue op sps (retrySuspended s) := by
  simp only [issue, withVectorOperands, ho, evalOperands_retrySuspended ho, ht, ht', issueOp_retrySuspended]

theorem issueByRegnum_retrySuspended {accs : List Access} {sel : Word → Option VOp} (ho : evalOperands 2 accs sps s = .ok o)
    (ht : turnedAway s = none) (ht' : turnedAway (retrySuspended s) = none) :
    issueByRegnum accs sel sps s = issueByRegnum accs sel sps (retrySuspended s) := by
  have hvalue : ({ o with state := retrySuspended o.state } : Operands).value 0 = o.value 0 := rfl
  simp only [issueByRegnum, withVectorOperands, ho, evalOperands_retrySuspended ho, ht, ht', issueOp_retrySuspended, hvalue]

theorem issueMfvp_retrySuspended {sel : Word → Option MfvpFn} (ho : evalOperands 2 [.rw, .wl] sps s = .ok o)
    (ht : turnedAway s = none) (ht' : turnedAway (retrySuspended s) = none) :
    issueMfvp sel sps s = issueMfvp sel sps (retrySuspended s) := by
  have hvalue : ({ o with state := retrySuspended o.state } : Operands).value 0 = o.value 0 := rfl
  simp only [issueMfvp, withVectorOperands, ho, evalOperands_retrySuspended ho, ht, ht', readyToSend_retrySuspended,
    takeBlocked_retrySuspended, finishMfvp_retrySuspended, hvalue]

/-- An instruction that nothing turns away does what it does where the retry has been marked before it (R172). -/
theorem exec_retrySuspended {i : Instr} (ho : evalOperands 2 i.accesses i.operands s = .ok o) (ht : turnedAway s = none)
    (ht' : turnedAway (retrySuspended s) = none) : exec i s = exec i (retrySuspended s) := by
  cases i
  case mfvp | mfvcr | mfvlr | mfvmrlo | mfvmrhi | sync | msync =>
    simp only [exec, execMfvp, execMfvcr, execMfvlr, execMfvmrlo, execMfvmrhi, execSync, execMsync, retrySuspended_cfg]
    exact issueMfvp_retrySuspended ho ht ht'
  case mtvp | vsync =>
    simp only [exec, execMtvp, execVsync, retrySuspended_cfg]
    exact issueByRegnum_retrySuspended ho ht ht'
  all_goals exact issue_retrySuspended ho ht ht'

end

/-! ### Nothing new executes before the retry -/

/-- An instruction that has not started does not execute while an older reference is to be retried (R172). -/
theorem mayRun_of_retrying {s : State} {j k : Nat} {ej ek : QEntry} (hjk : j < k) (hj : s.vp.queue[j]? = some ej)
    (hr : ej.retrying = true) (hs : ek.started = false) : mayRun s k ek = false := by
  have hheld : heldUp s.vp k ek = true := by
    refine List.any_eq_true.mpr ⟨(ej, j), List.mem_zipIdx_iff_getElem?.mpr hj, ?_⟩
    simp [hr, hjk]
  simp [mayRun, mayStart, hs, hheld]

end Sys2Proof.Machine
end

section
/-! The retry of a vector memory instruction (R415, R417): where its open elements' references pass, the head of the queue moves
them all and is complete. -/

namespace Sys2Proof.Machine

/-! ### The accesses of a mask of elements -/

/-- The accesses of the elements `m` at their addresses. -/
def accessesOf (m : Quad) (pa : Fin 64 → Nat) : List (Nat × Nat) := (elemsOf m).map fun i => (i.val, pa i)

theorem mem_accessesOf {m : Quad} {pa : Fin 64 → Nat} {x : Nat × Nat} :
    x ∈ accessesOf m pa ↔ ∃ k : Fin 64, m.getLsbD k = true ∧ x = (k.val, pa k) := by
  simp only [accessesOf, List.mem_map, mem_elemsOf, eq_comm (a := x)]

theorem accessMask_accessesOf (m : Quad) (pa : Fin 64 → Nat) : accessMask (accessesOf m pa) = m := by
  refine BitVec.eq_of_getLsbD_eq fun i hi => ?_
  rw [accessMask, getLsbD_maskOf, decide_eq_true hi, Bool.true_and, Bool.eq_iff_iff, List.any_eq_true]
  constructor
  · rintro ⟨x, hx, hxi⟩
    obtain ⟨k, hk, rfl⟩ := mem_accessesOf.mp hx
    rwa [← of_decide_eq_true hxi]
  · intro hm
    exact ⟨_, mem_accessesOf.mpr ⟨⟨i, hi⟩, hm, rfl⟩, decide_eq_true rfl⟩

/-- The access of an element, found by its number. -/
theorem find?_accessesOf (m : Quad) (pa : Fin 64 → Nat) (k : Fin 64) :
    (accessesOf m pa).find? (fun x => decide (x.1 = k.val)) = if m.getLsbD k then some (k.val, pa k) else none := by
  cases hfind : (accessesOf m pa).find? fun x => decide (x.1 = k.val) with
  | none =>
    have hno := List.find?_eq_none.mp hfind
    rw [if_neg fun hk => hno _ (mem_accessesOf.mpr ⟨k, hk, rfl⟩) (decide_eq_true rfl)]
  | some x =>
    obtain ⟨j, hj, rfl⟩ := mem_accessesOf.mp (List.mem_of_find?_eq_some hfind)
    have hjk : j = k := by simpa [Fin.ext_iff] using List.find?_some hfind
    rw [← hjk, if_pos hj]

/-- No access lies over the operands. -/
theorem overOperands_eq_false {size : Nat} {e : QEntry} {m : Quad} {pa : Fin 64 → Nat}
    (h : ∀ k : Fin 64, m.getLsbD k = true → ∀ g ∈ e.guards, g < pa k ∨ pa k + size ≤ g) :
    overOperands size e (accessesOf m pa) = false := by
  refine List.any_eq_false.mpr fun x hx => ?_
  obtain ⟨k, hk, rfl⟩ := mem_accessesOf.mp hx
  rw [Bool.not_eq_true, List.any_eq_false]
  intro g hg
  rcases h k hk g hg with hlt | hle
  · simp [hlt]
  · simp [hle]

/-- A byte that some access to an element has is found. -/
theorem findSome?_byte_isSome {ps : List Part} {q : Part} {i b : Nat} (hq : q ∈ ps) (hi : q.elem = i) (hb : q.off ≤ b)
    (hb' : b < q.off + q.len) : ((ps.filter fun q => decide (q.elem = i)).findSome? (·.byte b)).isSome = true := by
  rw [List.findSome?_isSome_iff]
  exact ⟨q, List.mem_filter.mpr ⟨hq, decide_eq_true hi⟩, by rw [Part.byte, if_pos ⟨hb, hb'⟩]; rfl⟩

/-- An element whose whole access is among some parts has a value. -/
theorem partsValue_isSome_of_mem {c : Config} {sz : ElemSize} {read : Nat → Nat → Nat} {oks : List (Nat × Nat)}
    {ps : List Part} {x : Nat × Nat} (hx : x ∈ oks) :
    (partsValue (partsOf c sz none read oks ++ ps) x.1 sz.bytes).isSome = true := by
  have hpart : (⟨x.1, 0, sz.bytes, x.2 + 0, BitVec.ofNat 64 (read (x.2 + 0) sz.bytes)⟩ : Part) ∈
      partsOf c sz none read oks ++ ps := List.mem_append_left _ (List.mem_map.mpr ⟨x, hx, rfl⟩)
  unfold partsValue
  refine List.foldrRecOn (motive := fun v : Option Nat => v.isSome = true) _ _ rfl fun acc hacc b hb => ?_
  have hbyte := findSome?_byte_isSome hpart rfl (Nat.zero_le b) (by simpa using List.mem_range.mp hb)
  obtain ⟨v, rfl⟩ := Option.isSome_iff_exists.mp hacc
  obtain ⟨y, hy⟩ := Option.isSome_iff_exists.mp hbyte
  simp only [hy, Option.isSome_some]

/-! ### The head of the queue and what it sees -/

/-- What VPSR<STS> stored with an instruction shows in the registers, the mask and what they depend on (R56). -/
theorem sees_frame (e : QEntry) (p : Vp) :
    e.sees p = { p with v := (e.sees p).v, vmr := (e.sees p).vmr, taint := (e.sees p).taint } := by
  unfold QEntry.sees
  split <;> rfl

/-- What an instruction sees does not change the check of a reference. -/
theorem sameWalk_seen (s : State) (e : QEntry) : SameWalk (s.setVp (e.sees s.vp)) s := by
  rw [sees_frame]
  exact ⟨rfl, rfl, rfl, rfl, rfl⟩

/-- What an instruction sees does not change what is open of it. -/
theorem openElems_seen (p : Vp) (e : QEntry) : View.openElems ⟨e.sees p, {}⟩ e = View.openElems ⟨p, {}⟩ e :=
  BitVec.eq_of_getLsbD_eq fun i _ => by rw [getLsbD_openElems, getLsbD_openElems, sees_sees_vmr]

/-- The only instruction of the queue, whose reference is retried, executes. -/
theorem drain_retrying {s : State} {e : QEntry} (hq : s.vp.queue = [e]) (hp : e.phase = .retrying) (hh : s.vp.halted = false) :
    drain s = runElems 0 allElements none (s.startTo 0) := by
  have hrun : runEntry 0 none none s = runElems 0 allElements none (s.startTo 0) := by
    simp [runEntry, hq, mayRun, mayStart, heldUp, QEntry.suspended, hp, hh]
  simp only [drain, hq, List.length_singleton, drainFrom, hrun]
  cases runElems 0 allElements none (s.startTo 0) <;> rfl

section
variable {s : State} {e : QEntry} {sz : ElemSize} {ad : Addressing} {write : Bool} {pa : Fin 64 → Nat} {m : Quad}
  (hpass : ∀ k : Fin 64, m.getLsbD k = true → ∀ pick,
    checkRef s e.mode write sz.bytes (vectorRow s e pick (elemAddress ad e (e.sees s.vp) k))
      (elemAddress ad e (e.sees s.vp) k) = .ok (pa k))
include hpass

/-- Where the references of the elements pass the checks collect their accesses and nothing else. -/
theorem moveRefs_pass (hck : e.checked = none) :
    let refs := moveRefs s e (e.sees s.vp) ad sz.bytes write m
    refs.oks = accessesOf m pa ∧ refs.faults = [] ∧ refs.refusal = none := by
  have hwalk := sameWalk_seen s e
  have hrefs : moveRefs s e (e.sees s.vp) ad sz.bytes write m =
      gatherRefs (s.setVp (e.sees s.vp)) e (s.setVp (e.sees s.vp)).vp ad sz.bytes write (elemsOf m) := by
    simp only [moveRefs, hck]
    exact gatherRefs_congr _ _ e _ ad _ _ _ hwalk.1 hwalk.2.1 hwalk.2.2.1 hwalk.2.2.2.1 hwalk.2.2.2.2
  rw [hrefs]
  refine gatherRefs_ok (s.setVp (e.sees s.vp)) e ad sz.bytes write pa (elemsOf m) fun k hk pick => ?_
  rw [← hwalk.checkRef, ← hwalk.vectorRow]
  exact hpass k ((mem_elemsOf m k).mp hk) pick

/-- A load of elements whose references pass loads them all. -/
theorem moveLoad_pass (hwrite : write = false) (hck : e.checked = none) (hsame : e.sameRegister = false) :
    ∃ rows e', moveLoad sz ad ⟨e.sees s.vp, {}⟩ e m none s = .ok (loadTb s rows) e' ∧ e.OnlyProgress e' ∧
      e'.done = e.done ||| m ∧
      ∀ k : Fin 64, e'.res[k] =
        if m.getLsbD k then loadedValue sz (s.vectorRead (pa k) sz.bytes) (elemDraw e.draw k) else e.res[k] := by
  subst hwrite
  obtain ⟨hoks, hfaults, hrefusal⟩ := moveRefs_pass hpass hck
  have hwhole : decide ((span s.cfg sz none).2 = sz.bytes) = true := decide_eq_true rfl
  unfold moveLoad
  simp only [hoks, hfaults, hrefusal, pickFault, hwhole, if_true, Option.isSome_some, List.filter_true]
  refine ⟨_, _, rfl, rfl, ?_, fun k => ?_⟩
  · simp only [markAccessed, accessMask_accessesOf]
  · simp only [loadResults, Fin.getElem_fin, Vector.getElem_ofFn, hsame, Bool.false_eq_true, if_false, Fin.eta,
      find?_accessesOf]
    by_cases hk : m.getLsbD k = true
    · simp only [if_pos hk, Option.getD_some]
    · simp only [if_neg hk]

/-- A store of elements whose references pass, none over the operands, stores them all. -/
theorem moveStore_pass (hwrite : write = true) (hck : e.checked = none)
    (hguards : ∀ k : Fin 64, m.getLsbD k = true → ∀ g ∈ e.guards, g < pa k ∨ pa k + sz.bytes ≤ g) :
    ∃ rows e', moveStore sz ad ⟨e.sees s.vp, {}⟩ e m none s =
        .ok (storeElems sz ad e (e.sees s.vp) none (accessesOf m pa) (loadTb s rows)) e' ∧ e.OnlyProgress e' ∧
      e'.done = e.done ||| m := by
  subst hwrite
  obtain ⟨hoks, hfaults, hrefusal⟩ := moveRefs_pass hpass hck
  have hover : overOperands sz.bytes e (accessesOf m pa) = false := overOperands_eq_false hguards
  have hfin : (accessesOf m pa).filter (fun x =>
      (partsValue (partsOf s.cfg sz none (fun _ _ => 0) (accessesOf m pa) ++ e.parts) x.1 sz.bytes).isSome) =
      accessesOf m pa :=
    List.filter_eq_self.mpr fun x hx => partsValue_isSome_of_mem hx
  unfold moveStore
  simp only [hoks, hfaults, hrefusal, pickFault, hover, Bool.false_eq_true, if_false, hfin]
  refine ⟨_, _, rfl, rfl, ?_⟩
  simp only [markAccessed, accessMask_accessesOf]

end

/-! ### The end of a move -/

/-- An instruction of which the move finishes everything that was open leaves the queue (R172). -/
theorem settleMove_complete {s s' : State} {e e' : QEntry} {w : View} (hq : s'.vp.queue = [e]) (hvmr : s'.vp.vmr = s.vp.vmr)
    (hp : e.OnlyProgress e') (hdone : e'.done = e.done ||| View.openElems ⟨s.vp, {}⟩ e) :
    settleMove 0 w (.ok s' e') = .next (s'.setVp { (e'.resume w).settle s'.vp with queue := [] }) := by
  show Host.Outcome.next (s'.putEntry 0 (e'.resume w)) = _
  have hprogress := resume_progress e e' w hp
  have hdone' : (e'.resume w).done = e.done ||| View.openElems ⟨s.vp, {}⟩ e := by rw [resume_frame, hdone]
  generalize e'.resume w = r at *
  have hnone : View.openElems ⟨s'.vp, {}⟩ r = 0 := by
    refine openElems_finished s.vp s'.vp e r hvmr ?_ ?_ ?_ ?_ hdone' <;> rw [hprogress]
  have hset : s'.vp.queue.set 0 r = [r] := by rw [hq]; rfl
  rw [State.putEntry, hset, retire_single, if_pos hnone]

end Sys2Proof.Machine
end

section
/-! The bytes that a store leaves (R97, R219 to R222): those of an element that no other access of the instruction touches. -/

namespace Sys2Proof.Machine

/-! ### The last cell for an address -/

theorem lastCell_cons (x : Nat) (b : Byte) (cs : List Host.Cell) (a : Nat) :
    lastCell ((x, b) :: cs) a = (lastCell cs a).or (if x = a then some b else none) := by
  rw [lastCell]
  cases lastCell cs a <;> rfl

/-- Leaving out the cells of some addresses leaves out what they hold, and nothing else. -/
theorem lastCell_filter (g : Nat → Bool) (cs : List Host.Cell) (a : Nat) :
    lastCell (cs.filter fun c => g c.1) a = if g a then lastCell cs a else none := by
  induction cs with
  | nil => simp [lastCell]
  | cons c cs ih =>
    obtain ⟨x, b⟩ := c
    by_cases hg : g x = true
    · rw [List.filter_cons, if_pos hg, lastCell_cons, lastCell_cons, ih]
      by_cases hx : x = a
      · rw [← hx, if_pos hg, if_pos hg]
      · simp [hx]
    · rw [List.filter_cons, if_neg hg, lastCell_cons, ih]
      by_cases hx : x = a
      · rw [← hx, if_neg hg, if_neg hg]
      · simp [hx]

/-- Among several lists of cells of which only one has an address, that one decides it. -/
theorem lastCell_flatMap {α : Type} {l : List α} {f : α → List Host.Cell} {x : α} {a : Nat} (hx : x ∈ l)
    (hother : ∀ y ∈ l, y ≠ x → lastCell (f y) a = none) : lastCell (l.flatMap f) a = lastCell (f x) a := by
  have hall : ∀ l' : List α, (∀ y ∈ l', y ≠ x → lastCell (f y) a = none) →
      (x ∈ l' → lastCell (l'.flatMap f) a = lastCell (f x) a) ∧ (x ∉ l' → lastCell (l'.flatMap f) a = none) := by
    intro l' h
    induction l' with
    | nil => exact ⟨fun hmem => (List.not_mem_nil hmem).elim, fun _ => rfl⟩
    | cons y l' ih =>
      obtain ⟨ihmem, ihnot⟩ := ih fun z hz => h z (List.mem_cons_of_mem _ hz)
      rw [List.flatMap_cons, lastCell_append]
      by_cases hmem : x ∈ l'
      · rw [ihmem hmem]
        by_cases hy : y = x
        · subst hy
          exact ⟨fun _ => Option.or_self, fun hno => (hno List.mem_cons_self).elim⟩
        · rw [h y List.mem_cons_self hy, Option.or_none]
          exact ⟨fun _ => rfl, fun hno => (hno (List.mem_cons_of_mem _ hmem)).elim⟩
      · rw [ihnot hmem, Option.none_or]
        by_cases hy : y = x
        · subst hy
          exact ⟨fun _ => rfl, fun hno => (hno List.mem_cons_self).elim⟩
        · exact ⟨fun hin => ((List.mem_cons.mp hin).elim (fun hxy => hy hxy.symm) hmem).elim,
            fun _ => h y List.mem_cons_self hy⟩
  exact (hall l hother).1 hx

/-! ### The bytes of one element -/

/-- A byte of a range lies in none that is apart from it. -/
theorem overlap_eq_false {x len y size b : Nat} (hb : b < size) (h : x + len ≤ y ∨ y + size ≤ x) :
    overlap x len (y + b) 1 = false := by
  rw [overlap, Bool.and_eq_false_iff, decide_eq_false_iff_not, decide_eq_false_iff_not]
  omega

/-- A byte of an element has been stored if the access to some part of it had it. -/
theorem stored_iff {e : QEntry} {i b : Nat} :
    stored e i b = true ↔ ∃ q ∈ e.parts, q.elem = i ∧ q.off ≤ b ∧ b < q.off + q.len := by
  simp [stored, and_assoc]

/-- The byte at `a` of element `i` at `pa` is still to be stored (R97). -/
def toStore (ad : Addressing) (e : QEntry) (i pa a : Nat) : Bool := !covered ad e i a && !stored e i (a - pa)

/-- The cells that store an element: its bytes that are still to be stored. -/
theorem flatten_storeUnits (c : Config) (sz : ElemSize) (ad : Addressing) (e : QEntry) (p : Vp) (oks : List (Nat × Nat))
    (k : Fin 64) (pa : Nat) :
    (storeUnits c sz ad e p oks none (k.val, pa)).flatten =
      (cellsLE pa sz.bytes (storedValue ad sz.bytes e p oks k pa).toNat).filter fun cell => toStore ad e k.val pa cell.1 := by
  have hk : Fin.ofNat 64 k.val = k := Fin.ofNat_val_eq_self k
  simp only [storeUnits, span, hk, Nat.mul_zero, Nat.pow_zero, Nat.div_one, Nat.add_zero]
  rw [List.flatten_filter_not_isEmpty, ← List.filter_flatten, chunks_flatten]
  rfl

/-- What storing an element writes at an address. -/
theorem lastCell_storeUnits (c : Config) (sz : ElemSize) (ad : Addressing) (e : QEntry) (p : Vp) (oks : List (Nat × Nat))
    (k : Fin 64) (pa a : Nat) :
    lastCell (storeUnits c sz ad e p oks none (k.val, pa)).flatten a =
      if toStore ad e k.val pa a ∧ pa ≤ a ∧ a < pa + sz.bytes then
        some (BitVec.ofNat 8 ((storedValue ad sz.bytes e p oks k pa).toNat / 256 ^ (a - pa))) else none := by
  rw [flatten_storeUnits, lastCell_filter, lastCell_cellsLE]
  split <;> simp_all

section
variable {sz : ElemSize} {ad : Addressing} {e : QEntry} {m : Quad} {pa : Fin 64 → Nat} {k : Fin 64}
  (hother : ∀ j : Fin 64, m.getLsbD j = true → j ≠ k → pa j + sz.bytes ≤ pa k ∨ pa k + sz.bytes ≤ pa j)
  (hparts : ∀ q ∈ e.parts, q.elem ≠ k.val → q.pa + q.len ≤ pa k ∨ pa k + sz.bytes ≤ q.pa)
include hother

/-- Where only one element's access has a byte, that element decides what is written there. -/
theorem lastCell_storeElems (c : Config) (p : Vp) (hk : m.getLsbD k = true) {b : Nat} (hb : b < sz.bytes)
    (oks : List (Nat × Nat)) :
    lastCell ((accessesOf m pa).flatMap (storeUnits c sz ad e p oks none)).flatten (pa k + b) =
      if toStore ad e k.val (pa k) (pa k + b) then
        some ((storedValue ad sz.bytes e p oks k (pa k)).extractLsb' (8 * b) 8) else none := by
  have hflat : ((accessesOf m pa).flatMap (storeUnits c sz ad e p oks none)).flatten =
      (accessesOf m pa).flatMap fun x => (storeUnits c sz ad e p oks none x).flatten := by
    simp only [List.flatMap, List.flatten_flatten, List.map_map, Function.comp_def]
  have hbyte (v : Quad) : BitVec.ofNat 8 (v.toNat / 256 ^ b) = v.extractLsb' (8 * b) 8 := by
    refine BitVec.eq_of_toNat_eq ?_
    rw [BitVec.toNat_ofNat, BitVec.extractLsb'_toNat, Nat.shiftRight_eq_div_pow, Nat.pow_mul]
  rw [hflat, lastCell_flatMap (mem_accessesOf.mpr ⟨k, hk, rfl⟩), lastCell_storeUnits, Nat.add_sub_cancel_left, hbyte]
  · simp [hb]
  · intro y hy hyk
    obtain ⟨j, hj, rfl⟩ := mem_accessesOf.mp hy
    have hjk : j ≠ k := fun h => hyk (by rw [h])
    have hdisjoint := hother j hj hjk
    rw [lastCell_storeUnits, if_neg]
    omega

include hparts

/-- The bytes of an element that no other access of the instruction overlaps are shared with none (R97). -/
theorem sharedBytes_eq_zero : sharedBytes sz.bytes e (accessesOf m pa) k.val (pa k) = 0 := by
  refine (maskOf_eq_zero _).mpr fun b _ => ?_
  by_cases hb : b < 8 * sz.bytes
  · have hrange : b / 8 < sz.bytes := Nat.div_lt_of_lt_mul hb
    have haccess : ((accessesOf m pa).any fun x => decide (x.1 ≠ k.val) && overlap x.2 sz.bytes (pa k + b / 8) 1) = false := by
      refine List.any_eq_false.mpr fun x hx => ?_
      obtain ⟨j, hj, rfl⟩ := mem_accessesOf.mp hx
      by_cases hjk : j = k
      · simp [hjk]
      · have hapart := overlap_eq_false hrange (hother j hj hjk)
        simp [hapart]
    have hpart : (e.parts.any fun q => decide (q.elem ≠ k.val) && overlap q.pa q.len (pa k + b / 8) 1) = false := by
      refine List.any_eq_false.mpr fun q hq => ?_
      by_cases hqk : q.elem = k.val
      · simp [hqk]
      · have hapart := overlap_eq_false hrange (hparts q hq hqk)
        simp [hapart]
    dsimp only
    rw [haccess, hpart, Bool.or_self, Bool.and_false]
  · simp [hb]

/-- Such an element is stored as it is. -/
theorem storedValue_eq_elem (p : Vp) :
    storedValue ad sz.bytes e p (accessesOf m pa) k (pa k) = p.elem (fieldC e.cntrl) k := by
  unfold storedValue
  rw [sharedBytes_eq_zero hother hparts]
  simp

omit hother in
/-- No higher element has been stored over it. -/
theorem covered_eq_false {b : Nat} (hb : b < sz.bytes) : covered ad e k.val (pa k + b) = false := by
  have hpart : (e.parts.any fun q => decide (k.val < q.elem) && overlap q.pa q.len (pa k + b) 1) = false := by
    refine List.any_eq_false.mpr fun q hq => ?_
    by_cases hqk : k.val < q.elem
    · have hapart := overlap_eq_false hb (hparts q hq (by omega))
      simp [hapart]
    · simp [hqk]
  rw [covered, hpart, Bool.and_false]

end

end Sys2Proof.Machine
end

section
/-! A retried instruction whose references now pass completes (R172, R417). -/

namespace Sys2Proof.Machine

/-! ### A move that completes its instruction -/

/-- The retry has completed: nothing is queued, and of the machine only the vector processor has changed, not its state
register. -/
def Completed (s t : State) : Prop := t.vp.queue = [] ∧ t.vp.vpsr = s.vp.vpsr ∧ t.cpu = s.cpu ∧ t.mem = s.mem

theorem vectorRead_setVp {s : State} {p : Vp} (hp : p.vbuf = s.vp.vbuf) (a n : Nat) :
    (s.setVp p).vectorRead a n = s.vectorRead a n := by
  induction n generalizing a with
  | zero => rfl
  | succ n ih =>
    have hbyte : (s.setVp p).vectorByte a = s.vectorByte a := by simp only [State.vectorByte, State.setVp_vp, hp]; rfl
    rw [State.vectorRead, State.vectorRead, hbyte, ih]

section
variable {s : State} {e : QEntry} {sz : ElemSize} {ad : Addressing} {pa : Fin 64 → Nat} (hq : s.vp.queue = [e])
  (hl : e.len.toNat ≤ 64) (hopen : View.openElems ⟨s.vp, {}⟩ e ≠ 0) (hck : e.checked = none)
include hq hl hopen hck

/-- The load at the head of the queue completes where its open elements' references pass. -/
theorem runElems_load_completes (hop : e.op = .load sz ad) (hsame : e.sameRegister = false)
    (hpass : ∀ k : Fin 64, (View.openElems ⟨s.vp, {}⟩ e).getLsbD k = true → ∀ pick,
      checkRef s e.mode false sz.bytes (vectorRow s e pick (elemAddress ad e (e.sees s.vp) k))
        (elemAddress ad e (e.sees s.vp) k) = .ok (pa k)) :
    ∃ t, runElems 0 allElements none s = .next t ∧ Completed s t ∧ ∀ k : Fin 64,
      ((View.openElems ⟨s.vp, {}⟩ e).getLsbD k = true →
        t.vp.elem (fieldC e.cntrl) k = loadedValue sz (s.vectorRead (pa k) sz.bytes) (elemDraw e.draw k)) ∧
      (e.done.getLsbD k = true → t.vp.elem (fieldC e.cntrl) k = e.res[k]) := by
  obtain ⟨rows, e', hmove, hprogress, hdone, hres⟩ := moveLoad_pass hpass rfl hck hsame
  have hloaded := loadTb_onlyMoves s rows
  generalize loadTb s rows = s' at hmove hloaded
  have hrun := runElems_load hq hl (by rw [openElems_seen]; exact hopen) hop
  rw [openElems_seen, hmove, settleMove_complete (by rw [hloaded]; exact hq) (by rw [hloaded]) hprogress hdone] at hrun
  refine ⟨_, hrun, ?_, fun k => ?_⟩
  · rw [settle_frame, hloaded]
    exact ⟨rfl, rfl, rfl, rfl⟩
  · have hr := resume_progress e e' ⟨e.sees s.vp, {}⟩ hprogress
    have hrdone : (e'.resume ⟨e.sees s.vp, {}⟩).done = e.done ||| View.openElems ⟨s.vp, {}⟩ e := by rw [resume_frame, hdone]
    have hrres : (e'.resume ⟨e.sees s.vp, {}⟩).res = e'.res := by rw [resume_frame]
    generalize e'.resume ⟨e.sees s.vp, {}⟩ = r at *
    have hcntrl : r.cntrl = e.cntrl := by rw [hr]
    have hwrites : r.op.writesReg = true := by rw [show r.op = e.op by rw [hr], hop]; rfl
    have hkeeps : r.sameRegister = false := by rw [← hsame, hr]; rfl
    have helem : (r.settle s'.vp).elem (fieldC e.cntrl) k =
        if r.done.getLsbD k then r.res[k] else (r.onto s'.vp).elem (fieldC e.cntrl) k := by
      rw [← hcntrl, QEntry.settle, elem_settleOn r _ _ hwrites, written_eq r hkeeps, result_eq r hkeeps]
    refine ⟨fun hk => helem.trans ?_, fun hk => helem.trans ?_⟩
    · rw [if_pos (by rw [hrdone, BitVec.getLsbD_or, hk, Bool.or_true]), hrres, hres, if_pos hk]
    · have hclosed : (View.openElems ⟨s.vp, {}⟩ e).getLsbD k ≠ true := by rw [getLsbD_openElems, hk]; simp
      rw [if_pos (by rw [hrdone, BitVec.getLsbD_or, hk, Bool.true_or]), hrres, hres, if_neg hclosed]

/-- The store at the head of the queue completes where its open elements' references pass and none lies over the operands; its
writes are behind those that were not visible yet. -/
theorem runElems_store_completes (hop : e.op = .store sz ad)
    (hpass : ∀ k : Fin 64, (View.openElems ⟨s.vp, {}⟩ e).getLsbD k = true → ∀ pick,
      checkRef s e.mode true sz.bytes (vectorRow s e pick (elemAddress ad e (e.sees s.vp) k))
        (elemAddress ad e (e.sees s.vp) k) = .ok (pa k))
    (hguards : ∀ k : Fin 64, (View.openElems ⟨s.vp, {}⟩ e).getLsbD k = true → ∀ g ∈ e.guards,
      g < pa k ∨ pa k + sz.bytes ≤ g) :
    ∃ t, runElems 0 allElements none s = .next t ∧ Completed s t ∧
      t.vp.vbuf = s.vp.vbuf ++ (accessesOf (View.openElems ⟨s.vp, {}⟩ e) pa).flatMap
        (storeUnits s.cfg sz ad e (e.sees s.vp) (accessesOf (View.openElems ⟨s.vp, {}⟩ e) pa) none) := by
  obtain ⟨rows, e', hmove, hprogress, hdone⟩ := moveStore_pass hpass rfl hck hguards
  have hloaded := loadTb_onlyMoves s rows
  have hvbuf : (loadTb s rows).vp.vbuf = s.vp.vbuf := by unfold loadTb; split <;> rfl
  have hstored := storeElems_onlyMoves sz ad e (e.sees s.vp) none (accessesOf (View.openElems ⟨s.vp, {}⟩ e) pa) s _ hloaded
  have hwritten : (storeElems sz ad e (e.sees s.vp) none (accessesOf (View.openElems ⟨s.vp, {}⟩ e) pa)
      (loadTb s rows)).vp.vbuf =
      s.vp.vbuf ++ (accessesOf (View.openElems ⟨s.vp, {}⟩ e) pa).flatMap
        (storeUnits s.cfg sz ad e (e.sees s.vp) (accessesOf (View.openElems ⟨s.vp, {}⟩ e) pa) none) := by
    rw [storeElems, show (loadTb s rows).cfg = s.cfg by rw [hloaded], ← hvbuf]
    rfl
  generalize storeElems sz ad e (e.sees s.vp) none _ (loadTb s rows) = s' at hmove hstored hwritten
  have hrun := runElems_store hq hl (by rw [openElems_seen]; exact hopen) hop
  rw [openElems_seen, hmove, settleMove_complete (by rw [hstored]; exact hq) (by rw [hstored]) hprogress hdone] at hrun
  refine ⟨_, hrun, ?_, ?_⟩
  · rw [settle_frame, hstored]
    exact ⟨rfl, rfl, rfl, rfl⟩
  · rw [settle_frame]
    exact hwritten

end

/-! ### The only pending instruction is retried -/

/-- A suspended instruction as it executes again. -/
def retriedEntry (e : QEntry) : QEntry := { e with phase := .retrying, started := true }

/-- The machine as its only pending instruction, a suspended one, executes again. -/
def retriedState (s : State) (e : QEntry) : State :=
  s.setVp { s.vp with vpsr := s.vp.vpsr &&& ~~~0x20, queue := [retriedEntry e] }

theorem retrySuspended_single {s : State} {e : QEntry} (hasync : s.cfg.isAsync = true) (hmf : s.vp.mf = true)
    (hq : s.vp.queue = [e]) (hs : e.suspended = true) :
    retrySuspended s = { s with
      vp := { s.vp with vpsr := s.vp.vpsr &&& ~~~0x20, queue := [{ e with phase := .retrying }] } } := by
  have hqueue : (s.vp.queue.map fun e => if e.suspended then { e with phase := .retrying } else e) =
      [{ e with phase := .retrying }] := by rw [hq, List.map_singleton, if_pos hs]
  rw [retrySuspended, hasync, hmf, hqueue]
  rfl

/-- With MF cleared the suspended instruction is what executes (R172). -/
theorem drain_retrySuspended {s : State} {e : QEntry} (hasync : s.cfg.isAsync = true) (hmf : s.vp.mf = true)
    (hhalted : s.vp.halted = false) (hq : s.vp.queue = [e]) (hs : e.suspended = true) :
    drain (retrySuspended s) = runElems 0 allElements none (retriedState s e) := by
  have hretry := retrySuspended_single hasync hmf hq hs
  have hqueue : (retrySuspended s).vp.queue = [{ e with phase := .retrying }] := by rw [hretry]
  have hstart : (retrySuspended s).startTo 0 = retriedState s e := by
    rw [startTo_single _ _ hqueue, hretry]
    rfl
  rw [drain_retrying hqueue rfl (by rw [hretry]; exact hhalted), hstart]

/-- A retried instruction sees what it saw before. -/
theorem sees_retriedEntry (s : State) (e : QEntry) :
    (retriedEntry e).sees (retriedState s e).vp =
      { e.sees s.vp with vpsr := s.vp.vpsr &&& ~~~0x20, queue := [retriedEntry e] } := by
  unfold QEntry.sees retriedEntry retriedState
  dsimp only [State.setVp_vp]
  split <;> rfl

theorem elem_sees_retriedEntry (s : State) (e : QEntry) (r : BitVec 4) (k : Fin 64) :
    ((retriedEntry e).sees (retriedState s e).vp).elem r k = (e.sees s.vp).elem r k := by
  rw [sees_retriedEntry]
  rfl

/-- Element `k` of an instruction is still to be executed. -/
def StillOpen (s : State) (e : QEntry) (k : Fin 64) : Prop :=
  e.isActive (e.sees s.vp).vmr k = true ∧ e.done.getLsbD k = false ∧ e.left.getLsbD k = false

/-- What is open of a retried instruction is what was left of it. -/
theorem getLsbD_openElems_retried {s : State} {e : QEntry} {k : Fin 64} :
    (View.openElems ⟨(retriedState s e).vp, {}⟩ (retriedEntry e)).getLsbD k = true ↔ StillOpen s e k := by
  rw [getLsbD_openElems, sees_retriedEntry]
  have hactive : (retriedEntry e).isActive (e.sees s.vp).vmr k = e.isActive (e.sees s.vp).vmr k := rfl
  simp only [hactive, k.isLt, decide_true, Bool.true_and, Bool.and_eq_true, Bool.not_eq_true']
  exact ⟨fun ⟨⟨hdone, hleft⟩, ha⟩ => ⟨ha, hdone, hleft⟩, fun ⟨ha, hdone, hleft⟩ => ⟨⟨hdone, hleft⟩, ha⟩⟩

/-- Its references are checked as before. -/
theorem checkRef_retried (s : State) (e : QEntry) (ad : Addressing) (write : Bool) (size : Nat) (pick : Quad) (k : Fin 64) :
    let va := elemAddress ad e (e.sees s.vp) k
    elemAddress ad (retriedEntry e) ((retriedEntry e).sees (retriedState s e).vp) k = va ∧
      checkRef (retriedState s e) (retriedEntry e).mode write size
        (vectorRow (retriedState s e) (retriedEntry e) pick va) va =
      checkRef s e.mode write size (vectorRow s e pick va) va := by
  rw [sees_retriedEntry]
  exact ⟨by cases ad <;> rfl, rfl⟩

/-- Completing the retry has cleared MF and left PMF (R172). -/
theorem Completed.flags {s t : State} {e : QEntry} (h : Completed (retriedState s e) t) :
    t.vp.mf = false ∧ t.vp.pmf = s.vp.pmf := by
  obtain ⟨-, hvpsr, -, -⟩ := h
  have hclear : t.vp.vpsr = setBit s.vp.vpsr 5 false := hvpsr
  rw [Vp.mf, Vp.pmf, Vp.pmf, hclear, getLsbD_setBit _ (by decide), getLsbD_setBit _ (by decide)]
  exact ⟨rfl, rfl⟩

section
variable {s : State} {e : QEntry} {sz : ElemSize} {ad : Addressing} {write : Bool} {pa : Fin 64 → Nat}
  (hopen : ∃ k, StillOpen s e k)
  (hpass : ∀ k, StillOpen s e k → ∀ pick, checkRef s e.mode write sz.bytes
    (vectorRow s e pick (elemAddress ad e (e.sees s.vp) k)) (elemAddress ad e (e.sees s.vp) k) = .ok (pa k))

include hopen in
theorem openElems_retried_ne_zero : View.openElems ⟨(retriedState s e).vp, {}⟩ (retriedEntry e) ≠ 0 := by
  obtain ⟨k, hk⟩ := hopen
  intro h0
  have hbit := getLsbD_openElems_retried.mpr hk
  rw [h0] at hbit
  simp at hbit

include hpass in
theorem checkRef_retriedEntry (k : Fin 64)
    (hk : (View.openElems ⟨(retriedState s e).vp, {}⟩ (retriedEntry e)).getLsbD k = true) (pick : Quad) :
    let va := elemAddress ad (retriedEntry e) ((retriedEntry e).sees (retriedState s e).vp) k
    checkRef (retriedState s e) (retriedEntry e).mode write sz.bytes
      (vectorRow (retriedState s e) (retriedEntry e) pick va) va = .ok (pa k) := by
  obtain ⟨hva, hcheck⟩ := checkRef_retried s e ad write sz.bytes pick k
  rw [hva]
  exact hcheck.trans (hpass k (getLsbD_openElems_retried.mp hk) pick)

include hopen hpass

/-- A retried load loads every element that was left, each with what its own access reads (R417). -/
theorem retry_load (hwrite : write = false) (hop : e.op = .load sz ad) (hck : e.checked = none) (hl : e.len.toNat ≤ 64)
    (hsame : ad = .indexed → fieldB e.cntrl ≠ fieldC e.cntrl) :
    ∃ t, runElems 0 allElements none (retriedState s e) = .next t ∧ Completed (retriedState s e) t ∧ ∀ k : Fin 64,
      (StillOpen s e k →
        t.vp.elem (fieldC e.cntrl) k = loadedValue sz (s.vectorRead (pa k) sz.bytes) (elemDraw e.draw k)) ∧
      (e.done.getLsbD k = true → t.vp.elem (fieldC e.cntrl) k = e.res[k]) := by
  subst hwrite
  have hown : (retriedEntry e).sameRegister = false := by
    cases ad <;> simp_all [QEntry.sameRegister, retriedEntry]
  obtain ⟨t, hrun, hdone, helems⟩ := runElems_load_completes (s := retriedState s e) (e := retriedEntry e) rfl hl
    (openElems_retried_ne_zero hopen) hck hop hown (checkRef_retriedEntry hpass)
  refine ⟨t, hrun, hdone, fun k => ⟨fun hk => ?_, (helems k).2⟩⟩
  have hread : (retriedState s e).vectorRead (pa k) sz.bytes = s.vectorRead (pa k) sz.bytes := vectorRead_setVp (by rfl) _ _
  rw [← hread]
  exact (helems k).1 (getLsbD_openElems_retried.mpr hk)

/-- A retried store stores every byte that was left of an element which no other access overlaps, and none again (R97, R417). -/
theorem retry_store (hwrite : write = true) (hop : e.op = .store sz ad) (hck : e.checked = none) (hl : e.len.toNat ≤ 64)
    (hguards : ∀ k, StillOpen s e k → ∀ g ∈ e.guards, g < pa k ∨ pa k + sz.bytes ≤ g) :
    ∃ t, runElems 0 allElements none (retriedState s e) = .next t ∧ Completed (retriedState s e) t ∧
      ∀ k, StillOpen s e k → (∀ j, StillOpen s e j → j ≠ k → pa j + sz.bytes ≤ pa k ∨ pa k + sz.bytes ≤ pa j) →
        (∀ q ∈ e.parts, q.elem ≠ k.val → q.pa + q.len ≤ pa k ∨ pa k + sz.bytes ≤ q.pa) → ∀ b, b < sz.bytes →
          t.vectorByte (pa k + b) =
            if stored e k b then s.vectorByte (pa k + b)
            else ((e.sees s.vp).elem (fieldC e.cntrl) k).extractLsb' (8 * b) 8 := by
  subst hwrite
  obtain ⟨t, hrun, hdone, hvbuf⟩ := runElems_store_completes (s := retriedState s e) (e := retriedEntry e) rfl hl
    (openElems_retried_ne_zero hopen) hck hop (checkRef_retriedEntry hpass)
    fun k hk => hguards k (getLsbD_openElems_retried.mp hk)
  refine ⟨t, hrun, hdone, fun k hk hother hparts b hb => ?_⟩
  have hother' := fun j hj => hother j (getLsbD_openElems_retried.mp hj)
  have hbyte := lastCell_storeElems (e := retriedEntry e) (ad := ad) hother' (retriedState s e).cfg
    ((retriedEntry e).sees (retriedState s e).vp) (getLsbD_openElems_retried.mpr hk) hb
    (accessesOf (View.openElems ⟨(retriedState s e).vp, {}⟩ (retriedEntry e)) pa)
  have hvalue := (storedValue_eq_elem (e := retriedEntry e) (ad := ad) hother' hparts
    ((retriedEntry e).sees (retriedState s e).vp)).trans (elem_sees_retriedEntry s e _ k)
  have hcovered : covered ad (retriedEntry e) k.val (pa k + b) = false := covered_eq_false (e := retriedEntry e) hparts hb
  have hstored : toStore ad (retriedEntry e) k.val (pa k) (pa k + b) = !stored e k b := by
    rw [toStore, hcovered, Nat.add_sub_cancel_left, Bool.not_false, Bool.true_and]
    rfl
  rw [hvalue, hstored] at hbyte
  obtain ⟨-, -, -, hmem⟩ := hdone
  rw [State.vectorByte, hvbuf, List.flatten_append, lastCell_append, hbyte, hmem]
  cases stored e k b <;> rfl

end

/-- Settles O26: the retry is marked before the instruction in either case; what has not started is held up by what is to be
retried; and the one instruction that is retried moves all that was left of it, by `retry_load` and `retry_store`. -/
theorem retryCompletes : Obligations.RetryCompletes := by
  refine ⟨fun i s o ho h1 h2 h3 h4 => ?_, fun s j k ej ek hjk hj hk hr hs elems part => ?_, ?_⟩
  · have ht : turnedAway s = none := by simp [turnedAway, h1, h2, h3, h4]
    exact exec_retrySuspended ho ht ((turnedAway_retrySuspended h1 h2 h3 h4).trans ht)
  · exact runEntry_of_not_mayRun hk (mayRun_of_retrying hjk hj hr hs) elems part
  · intro s e sz ad write pa hasync hmf hhalted hq hsusp hop hck hl hsame p open' hopen hpass hguards
    refine ⟨retrySuspended_single hasync hmf hq hsusp, ?_⟩
    rw [drain_retrySuspended hasync hmf hhalted hq hsusp]
    cases write with
    | false =>
      obtain ⟨t, hrun, hdone, helems⟩ := retry_load hopen hpass rfl hop hck hl (hsame rfl)
      obtain ⟨hmf', hpmf⟩ := hdone.flags
      obtain ⟨hqueue, -, hcpu, hmem⟩ := hdone
      refine ⟨t, hrun, hmf', hpmf, hqueue, hcpu, hmem, fun _ k => ⟨fun hk => ?_, (helems k).2⟩,
        fun h => Bool.noConfusion h⟩
      rw [(helems k).1 hk]
      cases sz with
      | long => exact Quad.lo_mk _ _
      | quad => rfl
    | true =>
      obtain ⟨t, hrun, hdone, hbytes⟩ := retry_store hopen hpass rfl hop hck hl (hguards rfl)
      obtain ⟨hmf', hpmf⟩ := hdone.flags
      obtain ⟨hqueue, -, hcpu, hmem⟩ := hdone
      refine ⟨t, hrun, hmf', hpmf, hqueue, hcpu, hmem, fun h => Bool.noConfusion h,
        fun _ k hk hother hparts b hb => ⟨fun hno => ?_, fun hyes => ?_⟩⟩
      · rw [hbytes k hk hother hparts b hb, if_neg]
        rw [stored_iff]
        rintro ⟨q, hq, hqk, hoff, hlen⟩
        have := hno q hq hqk
        omega
      · rw [hbytes k hk hother hparts b hb, if_pos (stored_iff.mpr hyes)]

end Sys2Proof.Machine
end

section
/-! Decoding undoes encoding (R82, R130 to R134, R149, R154): bytes of a number, the memory specifiers, the operand specifiers, and
the table of opcodes, each read back as written. -/

namespace Sys2Proof

/-! ### The bytes of a number -/

theorem takeLE_bytesLE {n v : Nat} (h : v < 2 ^ (8 * n)) (rest : List Byte) :
    takeLE n (bytesLE n v ++ rest) = some (v, rest) := by
  induction n generalizing v with
  | zero =>
    have hv : v = 0 := by simpa using h
    rw [hv]
    rfl
  | succ n ih =>
    have hpow : 2 ^ (8 * (n + 1)) = 256 * 2 ^ (8 * n) := by rw [Nat.mul_add, Nat.pow_add]; omega
    have hbyte : (BitVec.ofNat 8 v).toNat = v % 256 := BitVec.toNat_ofNat ..
    simp only [bytesLE, List.cons_append, takeLE, ih (v := v / 256) (by omega), hbyte, Nat.mod_add_div]

/-- A displacement or an address is read back from its bytes (R134). -/
theorem withConstant_bytesLE {n w : Nat} (hw : w = 8 * n) (c : BitVec w) (f : Nat → Base) (rest : List Byte) :
    withConstant n (bytesLE n c.toNat ++ rest) f = .ok (f c.toNat, rest) := by
  rw [withConstant, takeLE_bytesLE (hw ▸ c.isLt)]

/-! ### Mode bytes -/

theorem modeByte_toNat {mode : Nat} (h : mode < 16) (n : RegNo) : (modeByte mode n).toNat = 16 * mode + n.toNat := by
  rw [modeByte, BitVec.toNat_ofNat, Nat.mod_eq_of_lt (by omega)]

theorem modeByte_mode {mode : Nat} (h : mode < 16) (n : RegNo) : (modeByte mode n).toNat / 16 = mode := by
  rw [modeByte_toNat h]
  omega

theorem modeByte_register {mode : Nat} (h : mode < 16) (n : RegNo) : (modeByte mode n).extractLsb' 0 4 = n := by
  refine BitVec.eq_of_toNat_eq ?_
  rw [BitVec.extractLsb'_toNat, modeByte_toNat h, Nat.shiftRight_zero]
  omega

/-- Mode 8 with register 15 is the immediate mode, and no other byte is (R134). -/
theorem modeByte_ne_immediate {mode : Nat} (h : mode < 16) {n : RegNo} (hn : mode ≠ 8 ∨ n ≠ 15) : modeByte mode n ≠ 0x8F := by
  intro heq
  have hmode : mode = 8 := (modeByte_mode h n).symm.trans (by rw [heq]; rfl)
  have hreg : n = 15 := (modeByte_register h n).symm.trans (by rw [heq]; rfl)
  exact hn.elim (· hmode) (· hreg)

/-! ### Specifiers -/

/-- A byte that begins a memory specifier: none of a literal, an index, a register or an immediate (R134). -/
def BeginsBase (m : Byte) : Prop := 6 ≤ m.toNat / 16 ∧ m ≠ 0x8F

theorem modeByte_beginsBase {mode : Nat} (h : mode < 16) (h6 : 6 ≤ mode) {n : RegNo} (hn : mode ≠ 8 ∨ n ≠ 15) :
    BeginsBase (modeByte mode n) := ⟨(modeByte_mode h n).symm ▸ h6, modeByte_ne_immediate h hn⟩

/-- What follows the mode byte of a memory specifier (R134). -/
def Base.constantBytes : Base → List Byte
  | .absolute a => bytesLE 4 a.toNat
  | .disp8 _ d | .disp8Def _ d => bytesLE 1 d.toNat
  | .disp16 _ d | .disp16Def _ d => bytesLE 2 d.toNat
  | .disp32 _ d | .disp32Def _ d => bytesLE 4 d.toNat
  | _ => []

theorem parseBase_encode {b : Base} (hb : b.wellFormed = true) (rest : List Byte) :
    ∃ m, b.encode = m :: b.constantBytes ∧ BeginsBase m ∧ parseBase m (b.constantBytes ++ rest) = .ok (b, rest) := by
  cases b with
  | absolute a =>
    refine ⟨0x9F, rfl, ⟨by decide, by decide⟩, ?_⟩
    have hparse : parseBase 0x9F (bytesLE 4 a.toNat ++ rest) =
        withConstant 4 (bytesLE 4 a.toNat ++ rest) fun v => .absolute (BitVec.ofNat 32 v) := rfl
    rw [Base.constantBytes, hparse, withConstant_bytesLE rfl, BitVec.ofNat_toNat, BitVec.setWidth_eq]
  | autoinc n =>
    have hn : n ≠ 15 := of_decide_eq_true hb
    refine ⟨modeByte 8 n, rfl, modeByte_beginsBase (by decide) (by decide) (.inr hn), ?_⟩
    simp only [parseBase, modeByte_mode, modeByte_register, Nat.reduceLT, if_neg hn, Base.constantBytes, List.nil_append]
  | autoincDef n =>
    have hn : n ≠ 15 := of_decide_eq_true hb
    refine ⟨modeByte 9 n, rfl, modeByte_beginsBase (by decide) (by decide) (.inl (by decide)), ?_⟩
    simp only [parseBase, modeByte_mode, modeByte_register, Nat.reduceLT, if_neg hn, Base.constantBytes, List.nil_append]
  | deferred n | autodec n =>
    refine ⟨_, rfl, modeByte_beginsBase (by decide) (by decide) (.inl (by decide)), ?_⟩
    simp only [parseBase, modeByte_mode, modeByte_register, Nat.reduceLT, Base.constantBytes, List.nil_append]
  | disp8 n d | disp8Def n d | disp16 n d | disp16Def n d | disp32 n d | disp32Def n d =>
    refine ⟨_, rfl, modeByte_beginsBase (by decide) (by decide) (.inl (by decide)), ?_⟩
    simp only [parseBase, modeByte_mode, modeByte_register, Nat.reduceLT, Base.constantBytes, withConstant_bytesLE,
      Nat.reduceMul, BitVec.ofNat_toNat, BitVec.setWidth_eq]

/-- An operand specifier is read back, whatever follows it (R134). -/
theorem parseSpec_encode {a : Access} {sp : Spec} (hsp : sp.wellFormed a = true) (rest : List Byte) :
    parseSpec a.size (sp.encode a.size ++ rest) = .ok (sp, rest) := by
  cases sp with
  | literal v =>
    have hlt : (v.zeroExtend 8).toNat < 64 := by simp; omega
    have hv : (v.zeroExtend 8).extractLsb' 0 6 = v := BitVec.eq_of_toNat_eq (by simp; omega)
    simp only [Spec.encode, List.singleton_append, parseSpec, if_pos hlt, hv]
  | reg n =>
    have hge : ¬ (modeByte 5 n).toNat < 64 := by rw [modeByte_toNat (by decide)]; omega
    simp only [Spec.encode, List.singleton_append, parseSpec, if_neg hge, modeByte_mode, modeByte_register, Nat.reduceLT,
      Nat.reduceEqDiff, if_false, if_true]
  | immediate v =>
    have hv : v.toNat < 2 ^ (8 * a.size) := of_decide_eq_true hsp
    have hpast : ¬ (0x8F : Byte).toNat < 64 ∧ (0x8F : Byte).toNat / 16 ≠ 4 ∧ (0x8F : Byte).toNat / 16 ≠ 5 := by decide
    simp only [Spec.encode, List.cons_append, parseSpec, hpast, if_false, if_true, takeLE_bytesLE hv, BitVec.ofNat_toNat,
      BitVec.setWidth_eq]
  | mem b =>
    obtain ⟨m, hm, ⟨h6, hne⟩, hparse⟩ := parseBase_encode (b := b) hsp rest
    have hpast : ¬ m.toNat < 64 ∧ m.toNat / 16 ≠ 4 ∧ m.toNat / 16 ≠ 5 := by omega
    simp only [Spec.encode, hm, List.cons_append, parseSpec, hpast, hne, if_false, hparse]
  | indexed x b =>
    obtain ⟨m, hm, -, hparse⟩ := parseBase_encode (b := b) hsp rest
    have hge : ¬ (modeByte 4 x).toNat < 64 := by rw [modeByte_toNat (by decide)]; omega
    simp only [Spec.encode, hm, List.cons_append, parseSpec, if_neg hge, modeByte_mode, modeByte_register, Nat.reduceLT,
      if_true, hparse]

/-- So are the specifiers of an instruction, in stream order (R130). -/
theorem parseSpecs_encodeSpecs {accs : List Access} {sps : List Spec} (h : specsWellFormed accs sps = true) (rest : List Byte) :
    parseSpecs accs (encodeSpecs accs sps ++ rest) = .ok (sps, rest) := by
  induction accs generalizing sps with
  | nil =>
    cases sps with
    | nil => rfl
    | cons sp sps => cases h
  | cons a accs ih =>
    cases sps with
    | nil => cases h
    | cons sp sps =>
      obtain ⟨hsp, hsps⟩ := Bool.and_eq_true_iff.mp h
      simp only [encodeSpecs, List.append_assoc, parseSpecs, parseSpec_encode hsp, ih hsps]

/-! ### Instructions -/

theorem opcode_toNat (i : Instr) : (BitVec.ofNat 8 i.opcode).toNat = i.opcode := by cases i <;> rfl

/-- Every instruction's opcode is assigned (R149). -/
theorem opcodeAccesses_opcode (i : Instr) : opcodeAccesses i.opcode = some i.accesses := by
  have hassigned : (opcodeAccesses i.opcode).isSome = true := by cases i <;> rfl
  obtain ⟨accs, haccs⟩ := Option.isSome_iff_exists.mp hassigned
  rw [Instr.accesses, haccs, Option.getD_some]

/-- With its operands an opcode stands for the core instruction of those that share it (R149, R154). -/
theorem buildInstr_opcode (i : Instr) : buildInstr i.opcode i.operands = some i.core := by cases i <;> rfl

/-- Decoding what follows FD: the opcode gives the accesses, these the specifiers, both the core instruction, and its operands
select the form (R131, R154). -/
theorem decodeVector_encode {r : RegNums} {i : Instr} (h : i.wellFormed r = true) (rest : List Byte) :
    decodeVector r (BitVec.ofNat 8 i.opcode :: (encodeSpecs i.accesses i.operands ++ rest)) = .ok (i, rest) := by
  obtain ⟨hspecs, hform⟩ := Bool.and_eq_true_iff.mp h
  have hrefine : i.core.refine r = i := of_decide_eq_true hform
  simp only [decodeVector, opcode_toNat, opcodeAccesses_opcode, parseSpecs_encodeSpecs hspecs, buildInstr_opcode, hrefine]

/-- Settles O5: FD leads to the vector opcodes, where `decodeVector_encode` reads the instruction back. -/
theorem decodeEncode : Obligations.DecodeEncode := by
  intro r i rest h
  have hfd : (0xFD : Byte).toNat = 0xFD := rfl
  simp only [encode, List.cons_append, decodeBytes, hfd, decodeVector_encode h]

/-- Settles O6: the words are the encodings of well-formed instructions, so `decodeEncode` reads them back. -/
theorem decodeWords : Obligations.DecodeWords :=
  ⟨decodeEncode {} (.vvaddl (.immediate 0x0123)) [] (by decide),
    decodeEncode {} (.mtvlr (.literal 1) (.literal 4)) [] (by decide),
    decodeEncode {} (.msync (.literal 5) (.reg 0)) [] (by decide),
    decodeEncode {} (.vsaddl (.immediate 0x0023) (.immediate 0x0000000A)) [] (by decide),
    decodeEncode {} (.vldl (.immediate 0x0003) (.mem (.deferred 1)) (.literal 4)) [] (by decide)⟩

end Sys2Proof
end

section
/-! Which registers the evaluation of operands leaves alone (R134, R144, R160): those that no autoincrement or autodecrement mode
names, and the stack pointers that the PSL does not select. -/

namespace Sys2Proof.Machine

/-! ### Writing one register -/

/-- Writing a general register writes one of R0 to R13, or the selected stack pointer as R14; a write to R15 is lost (R50). -/
theorem writeReg_cases (c : Scalar) (n : RegNo) (v : Long) :
    (∃ h : n.toNat < 14, c.writeReg n v = { c with gpr := c.gpr.set n.toNat v h }) ∨
      (n = 14 ∧ c.writeReg n v = { c with sps := c.sps.set (Scalar.stackIndex c.psl) v }) ∨ c.writeReg n v = c := by
  unfold Scalar.writeReg
  split
  · rename_i hn
    exact .inl ⟨hn, rfl⟩
  · split
    · rename_i hn
      exact .inr (.inl ⟨hn, rfl⟩)
    · exact .inr (.inr rfl)

/-- A general register other than the one written reads as before (R50). -/
theorem readReg_writeReg_of_ne (c : Scalar) {n m : RegNo} (h : m ≠ n) (v cursor : Long) :
    (c.writeReg n v).readReg m cursor = c.readReg m cursor := by
  rcases writeReg_cases c n v with ⟨hn, hw⟩ | ⟨hn, hw⟩ | hw <;> rw [hw]
  · have hnat : n.toNat ≠ m.toNat := fun he => h (BitVec.eq_of_toNat_eq he.symm)
    simp only [Scalar.readReg, Vector.getElem_set_ne _ _ hnat]
  · have hm : m ≠ 14 := fun hm => h (hm.trans hn.symm)
    simp only [Scalar.readReg, if_neg hm]

theorem writeReg_psl (c : Scalar) (n : RegNo) (v : Long) : (c.writeReg n v).psl = c.psl := by rw [writeReg_frame]

/-- Only the stack pointer that the PSL selects can be written (log entry 7). -/
theorem writeReg_sps_of_ne (c : Scalar) (n : RegNo) (v : Long) {k : Fin 5} (h : k ≠ Scalar.stackIndex c.psl) :
    (c.writeReg n v).sps[k] = c.sps[k] := by
  rcases writeReg_cases c n v with ⟨_, hw⟩ | ⟨_, hw⟩ | hw <;> rw [hw]
  exact Vector.getElem_set_ne (Scalar.stackIndex c.psl).isLt k.isLt fun he => h (Fin.ext he.symm)

/-! ### Writing at most some registers -/

/-- `t` has the general registers outside `rs` as `s` has them, the PSL, and the stack pointers that it does not select. -/
structure ModifiesOnly (rs : List RegNo) (s t : State) : Prop where
  psl : t.cpu.psl = s.cpu.psl
  registers : ∀ n, n ∉ rs → SameRegister n s t
  pointers : ∀ k : Fin 5, k ≠ Scalar.stackIndex s.cpu.psl → t.cpu.sps[k] = s.cpu.sps[k]

theorem ModifiesOnly.refl (rs : List RegNo) (s : State) : ModifiesOnly rs s s := ⟨rfl, fun _ _ => rfl, fun _ _ => rfl⟩

theorem ModifiesOnly.append {rs rs' : List RegNo} {s t u : State} (h : ModifiesOnly rs s t) (h' : ModifiesOnly rs' t u) :
    ModifiesOnly (rs ++ rs') s u where
  psl := h'.psl.trans h.psl
  registers n hn := by
    rw [List.mem_append, not_or] at hn
    exact (h'.registers n hn.2).trans (h.registers n hn.1)
  pointers k hk := (h'.pointers k (by rwa [h.psl])).trans (h.pointers k hk)

theorem setReg_modifiesOnly (s : State) (n : RegNo) (v : Long) : ModifiesOnly [n] s (s.setReg n v) where
  psl := writeReg_psl ..
  registers _ hm := readReg_writeReg_of_ne _ (List.ne_of_not_mem_cons hm) _ _
  pointers _ hk := writeReg_sps_of_ne _ _ _ hk

theorem registerValue_modifiesOnly (size : Nat) (n : RegNo) (c : Long) (s : State) :
    ModifiesOnly [] s (registerValue size n c s).state := by
  unfold registerValue
  simp only []
  split_ifs
  all_goals exact ⟨rfl, fun _ _ => rfl, fun _ _ => rfl⟩

/-! ### Evaluation -/

/-- A memory specifier modifies its register in the autoincrement and autodecrement modes, and no other (R144). -/
theorem evalBase_modifiesOnly {k size : Nat} {b : Base} {c : Long} {s : State} {g : Gathered Long}
    (h : evalBase k size b c s = .ok g) : ModifiesOnly b.modifies.toList s g.state := by
  cases b with
  | autodec n | autoinc n => cases h; exact setReg_modifiesOnly ..
  | autoincDef n => exact deferred_frame _ _ _ _ h ▸ setReg_modifiesOnly ..
  | disp8Def n d | disp16Def n d | disp32Def n d => exact deferred_frame _ _ _ _ h ▸ ModifiesOnly.refl ..
  | deferred n | absolute a | disp8 n d | disp16 n d | disp32 n d => cases h; exact ModifiesOnly.refl ..

/-- An operand specifier modifies what its memory specifier does (R144); a free value counts as none. -/
theorem evalSpec_modifiesOnly {k : Nat} {acc : Access} {m : List RegNo} {sp : Spec} {c : Long} {s : State} {g : Gathered Operand}
    (h : evalSpec k acc m sp c s = .ok g) : ModifiesOnly sp.modifies.toList s g.state := by
  cases sp with
  | literal v | immediate v => cases acc <;> cases h <;> exact ModifiesOnly.refl ..
  | reg n =>
    cases acc with
    | ab => cases h
    | wl => cases h; exact ModifiesOnly.refl ..
    | rw | rl | rq =>
      simp only [evalSpec] at h
      split at h <;> cases h
      · exact ⟨rfl, fun _ _ => rfl, fun _ _ => rfl⟩
      · exact registerValue_modifiesOnly ..
  | mem b | indexed x b =>
    obtain ⟨g', hbase, hmem⟩ := Eval.bind_eq_ok _ _ _ h
    rw [evalMemory_frame _ _ _ _ hmem]
    exact (evalBase_modifiesOnly hbase :)

theorem modifiedRegs_cons (sp : Spec) (sps : List Spec) : modifiedRegs (sp :: sps) = sp.modifies.toList ++ modifiedRegs sps := by
  rw [modifiedRegs, List.filterMap_cons]
  cases sp.modifies <;> rfl

/-- The specifiers of an instruction modify what each of them does (R159). -/
theorem evalSpecs_modifiesOnly {m : List RegNo} {k : Nat} {accs : List Access} {sps : List Spec} {c : Long} {s : State}
    {g : Gathered (List Operand × Long)} (h : evalSpecs m k accs sps c s = .ok g) :
    ModifiesOnly (modifiedRegs sps) s g.state := by
  induction accs generalizing k sps c s g with
  | nil => cases sps <;> (cases h; exact ModifiesOnly.refl ..)
  | cons a accs ih =>
    cases sps with
    | nil => cases h; exact ModifiesOnly.refl ..
    | cons sp sps =>
      obtain ⟨x, hx, hrest⟩ := Eval.bind_eq_ok _ _ _ h
      obtain ⟨y, hy, hz⟩ := Eval.bind_eq_ok _ _ _ hrest
      cases hz
      rw [modifiedRegs_cons]
      exact (evalSpec_modifiesOnly hx).append (ih hy :)

/-- Settles O9: `evalOperands_frame` says what of the state can change, `evalSpecs_modifiesOnly` which of the registers. -/
theorem operandsKeepOtherRegisters : Obligations.OperandsKeepOtherRegisters := by
  intro header accs sps s o h
  obtain ⟨g, hg, ho⟩ := Eval.bind_eq_ok _ _ _ h
  obtain ⟨-, hregs, hstacks⟩ := evalSpecs_modifiesOnly hg
  refine ⟨evalOperands_frame _ _ _ _ _ h, ?_⟩
  cases ho
  exact ⟨hregs, hstacks⟩

end Sys2Proof.Machine
end

section
/-! Opcodes to which no vector function is assigned (R150, R405). -/

namespace Sys2Proof

/-- The opcode table has operands for the assigned bytes only (R149, R150). -/
theorem opcodeAccesses_of_not_mem {op : Nat} (h : op ∉ Machine.assignedOpcodes) : opcodeAccesses op = none := by
  unfold opcodeAccesses
  split
  case h_64 => rfl
  all_goals exact absurd (by decide) h

theorem decodeBytes_unassigned (r : RegNums) {b : Byte} (h : b.toNat ∉ Machine.assignedOpcodes) (rest : List Byte) :
    decodeBytes r (0xFD :: b :: rest) = .error (.illegalVectorOpcode b) := by
  have hfd : (0xFD : Byte).toNat = 0xFD := rfl
  simp only [decodeBytes, hfd, decodeVector, opcodeAccesses_of_not_mem h]

namespace Machine

/-- The report through IVO writes VPSR alone (R405). -/
theorem reportIvo_frame (c : Config) (p : Vp) : reportIvo c p = { p with vpsr := (reportIvo c p).vpsr } := by
  unfold reportIvo
  split <;> rfl

/-- Where IVO is implemented the report sets it and clears VEN (R405). -/
theorem getLsbD_reportIvo {c : Config} (hc : c.implementsIvo = true) (p : Vp) (b : Nat) :
    (reportIvo c p).vpsr.getLsbD b = if b = 0 then false else if b = 25 then true else p.vpsr.getLsbD b := by
  rw [reportIvo, if_pos hc, Vp.setVpsr_vpsr, Vp.setVpsr_vpsr, getLsbD_setBit _ (by decide), getLsbD_setBit _ (by decide)]

/-- An illegal opcode with operands that can be parsed and that no vector store wrote goes through issue (R405). -/
theorem execIllegal_ivo {op : Byte} {s : State} {accs : List Access} {sps : List Spec} {rest : List Byte}
    (hrep : s.cfg.reportOf op = .ivo accs)
    (hparse : parseSpecs accs ((fetchBytes s (2 + 9 * accs.length) s.cpu.pc).bytes.drop 2) = .ok (sps, rest))
    (hover : overwritten s (fetchBytes s (2 + 9 * accs.length) s.cpu.pc)
      ((fetchBytes s (2 + 9 * accs.length) s.cpu.pc).bytes.length - rest.length) = false) :
    execIllegal op s = execIvo accs sps s := by
  simp only [execIllegal, hrep, hparse, hover, Bool.false_eq_true, if_false]

/-- With nothing queued and nothing to turn it away, the vector processor receives the illegal opcode at once. -/
theorem execIvo_idle {accs : List Access} {sps : List Spec} {s : State} {o : Operands}
    (ho : evalOperands 2 accs sps s = .ok o) (hi : Issuable s) (hq : s.vp.queue = []) :
    execIvo accs sps s = .next { afterOperands o with vp := reportIvo s.cfg s.vp } := by
  obtain ⟨hcfg, hvp, -⟩ := (evalOperands_frame _ _ _ _ _ ho).fields
  have hmf : o.state.vp.mf = false := hvp ▸ hi.2.2.2.1
  have hqueue : o.state.vp.queue = [] := hvp ▸ hq
  simp only [execIvo, withVectorOperands, ho, turnedAway_none s hi, readyToSend, retrySuspended_none _ hmf,
    makeRoom_next _ hqueue, andThen_next, queueFull_empty _ hqueue, Bool.false_eq_true, if_false, hcfg, hvp]
  rfl

/-- Settles O7: no operands are assigned to such a byte; the reports are the fault, and `reportIvo` once the operands are read. -/
theorem illegalOpcode : Obligations.IllegalOpcode := by
  refine ⟨fun r b rest hb => decodeBytes_unassigned r hb rest, fun s op hrep => by simp only [execIllegal, hrep],
    fun s op accs sps rest o hrep hivo hi hq hparse hover ho => ?_⟩
  refine ⟨_, (execIllegal_ivo hrep hparse hover).trans (execIvo_idle ho hi hq), ?_, ?_, fun b h25 h0 => ?_, ?_⟩
  · exact getLsbD_reportIvo hivo s.vp 25
  · exact getLsbD_reportIvo hivo s.vp 0
  · exact (getLsbD_reportIvo hivo s.vp b).trans (by rw [if_neg h0, if_neg h25])
  · exact congrArg (fun p => { afterOperands o with vp := p }) (reportIvo_frame s.cfg s.vp)

end Machine

end Sys2Proof
end

section
/-! Modify intent (R139, R226): what a load does with its control word, bit 13 aside, and that a store's bit 13 should be zero. -/

namespace Sys2Proof.Machine

/-! ### The control word without its bit 13 -/

/-- An instruction with the other modify intent: bit 13 of its control word flipped (R139). -/
def QEntry.flipIntent (e : QEntry) : QEntry := { e with cntrl := e.cntrl ^^^ 0x2000 }

theorem fieldB_flipIntent (c : Word) : fieldB (c ^^^ 0x2000) = fieldB c := by
  rw [fieldB, BitVec.extractLsb'_xor]
  exact BitVec.xor_zero

theorem fieldC_flipIntent (c : Word) : fieldC (c ^^^ 0x2000) = fieldC c := by
  rw [fieldC, BitVec.extractLsb'_xor]
  exact BitVec.xor_zero

theorem moe_flipIntent (c : Word) : moe (c ^^^ 0x2000) = moe c := by
  rw [moe, BitVec.getLsbD_xor]
  exact Bool.xor_false _

theorem mtf_flipIntent (c : Word) : mtf (c ^^^ 0x2000) = mtf c := by
  rw [mtf, BitVec.getLsbD_xor]
  exact Bool.xor_false _

section
variable (e : QEntry)

@[simp] theorem QEntry.flipIntent_draw : e.flipIntent.draw = e.draw := rfl
@[simp] theorem QEntry.flipIntent_fieldB : fieldB e.flipIntent.cntrl = fieldB e.cntrl := fieldB_flipIntent _
@[simp] theorem QEntry.flipIntent_fieldC : fieldC e.flipIntent.cntrl = fieldC e.cntrl := fieldC_flipIntent _
@[simp] theorem QEntry.flipIntent_moe : moe e.flipIntent.cntrl = moe e.cntrl := moe_flipIntent _
@[simp] theorem QEntry.flipIntent_isActive (vmr : Quad) (i : Nat) : e.flipIntent.isActive vmr i = e.isActive vmr i := by
  simp only [QEntry.isActive, active, flipIntent_moe]
  exact congrArg (fun b => decide (i < e.len.toNat) && (!moe e.cntrl || vmr.getLsbD i == b)) (mtf_flipIntent _)

/-! ### References -/

theorem elemAddress_flipIntent (ad : Addressing) (p : Vp) (i : Fin 64) :
    elemAddress ad e.flipIntent p i = elemAddress ad e p i := by
  cases ad with
  | strided => rfl
  | indexed => simp only [elemAddress, QEntry.flipIntent_fieldB]; rfl

/-- The references are checked alike (R408). -/
theorem gatherRefs_flipIntent (s : State) (p : Vp) (ad : Addressing) (size : Nat) (write : Bool) (l : List (Fin 64)) :
    gatherRefs s e.flipIntent p ad size write l = gatherRefs s e p ad size write l := by
  induction l with
  | nil => rfl
  | cons i is ih =>
    simp only [gatherRefs, elemAddress_flipIntent, ih]
    rfl

theorem moveRefs_flipIntent (s : State) (p : Vp) (ad : Addressing) (size : Nat) (write : Bool) (m : Quad) :
    moveRefs s e.flipIntent p ad size write m = moveRefs s e p ad size write m := by
  simp only [moveRefs, gatherRefs_flipIntent]
  rfl

/-! ### Results -/

theorem QEntry.flipIntent_sameRegister : e.flipIntent.sameRegister = e.sameRegister := by
  simp only [QEntry.sameRegister, flipIntent_fieldB, flipIntent_fieldC]
  rfl

theorem loadResults_flipIntent (f : Fin 64 → Quad) : loadResults e.flipIntent f = loadResults e f := by
  simp only [loadResults, QEntry.result, QEntry.flipIntent_sameRegister]
  rfl

theorem taintedAccesses_flipIntent (ad : Addressing) (write : Bool) (size : Nat) (p : Vp) (oks : List (Nat × Nat)) :
    taintedAccesses ad write size e.flipIntent p oks = taintedAccesses ad write size e p oks := by
  simp only [taintedAccesses, memoryTainted, QEntry.flipIntent_fieldB, QEntry.flipIntent_fieldC, QEntry.flipIntent_moe]

theorem markAccessed_flipIntent (ad : Addressing) (write : Bool) (size : Nat) (p : Vp) (oks : List (Nat × Nat)) :
    markAccessed ad write size e.flipIntent p oks = (markAccessed ad write size e p oks).flipIntent := by
  simp only [markAccessed, taintedAccesses_flipIntent]
  rfl

/-- A load with the other modify intent makes the same accesses and leaves the same results (R139, R226). -/
theorem moveLoad_flipIntent (sz : ElemSize) (ad : Addressing) (w : View) (m : Quad) (part : Option Nat) (s : State) :
    moveLoad sz ad w e.flipIntent m part s = (moveLoad sz ad w e m part s).mapEntry QEntry.flipIntent := by
  simp only [moveLoad, moveRefs_flipIntent, markAccessed_flipIntent, loadResults_flipIntent, QEntry.flipIntent_draw]
  generalize moveRefs s e w.p ad sz.bytes false m = refs
  cases refs.refusal with
  | some r => rfl
  | none =>
    cases pickFault e.draw refs.faults with
    | some f => rfl
    | none => rfl

/-! ### What it leaves in the registers -/

theorem QEntry.flipIntent_written : e.flipIntent.written = e.written := by
  simp only [QEntry.written, QEntry.replaces, flipIntent_sameRegister]
  rfl

theorem QEntry.flipIntent_result (i : Fin 64) : e.flipIntent.result i = e.result i := by
  simp only [QEntry.result, flipIntent_sameRegister]
  rfl

theorem QEntry.flipIntent_taintDest (seen : Vp) (old : Quad) : e.flipIntent.taintDest seen old = e.taintDest seen old := by
  simp only [QEntry.taintDest, flipIntent_written, flipIntent_isActive, flipIntent_moe]
  rfl

theorem QEntry.flipIntent_settleReg (seen p : Vp) : e.flipIntent.settleReg seen p = e.settleReg seen p := by
  simp only [QEntry.settleReg, flipIntent_fieldC, flipIntent_written, flipIntent_result, flipIntent_taintDest]

theorem QEntry.flipIntent_onto (p : Vp) : e.flipIntent.onto p = e.onto p := by
  simp only [QEntry.onto, flipIntent_fieldC]
  rfl

/-- A load's elements, and what they depend on, are the same with the other modify intent (R139). -/
theorem QEntry.flipIntent_settle_load {sz : ElemSize} {ad : Addressing} (h : e.op = .load sz ad) (p : Vp) :
    e.flipIntent.settle p = e.settle p := by
  have hop : e.flipIntent.op = .load sz ad := h
  simp only [QEntry.settle, QEntry.settleOn, h, hop, flipIntent_onto, flipIntent_settleReg]
  rfl

end

/-! ### Stores -/

/-- Formats b and d have no modify intent (R141). -/
theorem store_zeroBits (sz : ElemSize) (ad : Addressing) : (zeroBits (.store sz ad)).getLsbD 13 = true := by
  cases ad with
  | strided => exact (by decide : (0x3FF0 : Word).getLsbD 13 = true)
  | indexed => exact (by decide : (0x3F00 : Word).getLsbD 13 = true)

/-- Settles O27: of a load `moveLoad_flipIntent` and `flipIntent_settle_load`; of a store bit 13 is one that should be zero. -/
theorem modifyIntent : Obligations.ModifyIntent := by
  refine ⟨fun sz ad w e m part s p hop =>
    ⟨moveLoad_flipIntent e sz ad w m part s, QEntry.flipIntent_settle_load e hop p⟩,
    fun c b x i sz ad sps s o hmem ho hi himm hbit => ?_⟩
  have hzero : controlWord o &&& zeroBits (.store sz ad) ≠ 0 :=
    (and_ne_zero_iff _ _).mpr ⟨13, hbit, store_zeroBits sz ad⟩
  rw [exec_storeForm hmem]
  refine issue_refused ho hi ?_
  have hstop : staticStop (.store sz ad) sps (controlWord o) (entryOf (.store sz ad) o s).scalar = some .controlWord := by
    rw [staticStop_eq, if_neg (fun h => Bool.noConfusion h.1), if_neg (fun h => Bool.noConfusion (himm.symm.trans h.2)),
      if_pos hzero]
  rw [refusalOf, entryOf_cntrl rfl, hstop]

end Sys2Proof.Machine
end

section
/-! An asynchronous memory-management exception that waits to be reported (R172, R414). -/

namespace Sys2Proof.Machine

/-- Where PMF is set, a vector instruction that is neither illegal nor disabled is turned away by the report (R172). -/
theorem turnedAway_pending {s : State} (hpresent : s.cfg.vpPresent = true) (hven : s.cpu.venSeen = true)
    (hasync : s.cfg.isAsync = true) (hpmf : s.vp.pmf = true) : turnedAway s = some (takePending s) := by
  simp [turnedAway, hpresent, hven, hasync, hpmf]

/-- The report takes the exception that PMF announces, as one of the asynchronous method, and leaves MF (R414). -/
theorem takePending_eq {s : State} {f : MmFault} (hf : s.vp.pendingMm = some f) :
    takePending s = takeException (.mm (f.asynchronous s.cfg))
      { s with vp := { s.vp with vpsr := s.vp.vpsr &&& ~~~0x40, pendingMm := none } } := by
  rw [takePending, pendingFault, hf]
  rfl

/-- Settles O41: the test of PMF turns the instruction away, whichever it is, with the exception that waits. -/
theorem pendingFaultReported : Obligations.PendingFaultReported := by
  intro i s o f ho hpresent hven hasync hpmf hf
  have hexec := exec_turnedAway ho (turnedAway_pending hpresent hven hasync hpmf)
  exact ⟨_, f.asynchronous s.cfg, hexec.trans (takePending_eq hf), rfl, rfl, rfl, rfl⟩

end Sys2Proof.Machine
end

section
/-! Issue under prompt execution of an instruction of which nothing is open, and the closed forms of issue by the synchronous
method (R174, R182, R412). -/

namespace Sys2Proof.Machine

/-! ### Issue by the synchronous method -/

/-- Evaluating operands leaves an idle vector processor idle. -/
theorem Quiet.registersOnly {s t : State} (h : Quiet s) (hs : RegistersOnly s t) : Quiet t := by
  obtain ⟨hsched, hqueue, hvbuf, hhalted⟩ := h
  obtain ⟨-, hvp, -, -, -, -, hsch, -⟩ := hs.fields
  exact ⟨hsch.trans hsched, by rw [hvp]; exact hqueue, by rw [hvp]; exact hvbuf, by rw [hvp]; exact hhalted⟩

section
variable {op : VOp} {sz : ElemSize} {ad : Addressing} {write : Bool} {sps : List Spec} {s : State} {o : Operands}

/-- By the synchronous method a memory instruction is checked as it is issued (R174). -/
theorem issue_checks (hop : op.access = some (sz, ad, write)) (hruns : Runs op sps o s) (hsync : s.cfg.isAsync = false) :
    issue op sps s = checkAtIssue sz ad write (sentEntry op o s) o.next s o.state.spend := by
  obtain ⟨ho, hi, hq, ha, hl⟩ := hruns
  have hs := evalOperands_frame _ _ _ _ _ ho
  have hsync' : o.state.spend.cfg.isAsync = false := by rw [State.spend_cfg, hs.fields.1]; exact hsync
  have hop' : (entryOf op o s).op.access = some (sz, ad, write) := hop
  rw [issue_send _ sps s o ho hi hq ha fun _ => hl, send, queueFull_empty _ (hq.registersOnly hs).2.1,
    if_neg Bool.false_ne_true]
  simp only [hsync', hop']

end

section
variable {sz : ElemSize} {ad : Addressing} {write : Bool} {e e' : QEntry} {s s' : State} (hq : s.vp.queue = [])
include hq

/-- An idle vector processor checks the references at once: where they pass the instruction is sent (R174). -/
theorem checkAtIssue_ok (h : examine sz ad write ⟨s.vp, {}⟩ e s = .ok s' e') (next : Long) (orig : State) :
    checkAtIssue sz ad write e next orig s = settle (enqueue e' next s') := by
  simp only [checkAtIssue, pursue_empty _ _ s hq, andThen_next, stillWanted_empty s _ hq, viewAll_empty s hq, h,
    Bool.false_eq_true, if_false]

/-- Where one of them fails the exception is taken on the instruction (R412). -/
theorem checkAtIssue_failed {f : MmFault} (h : examine sz ad write ⟨s.vp, {}⟩ e s = .failed f s' e') (next : Long)
    (orig : State) :
    checkAtIssue sz ad write e next orig s = takeException (.mm f) (undoOperands orig
      (spoil sz ad write ⟨s.vp, {}⟩ e
        (gatherRefs s e s.vp ad sz.bytes write (elemsOf (View.openElems ⟨s.vp, {}⟩ e))).oks s').prompt) := by
  simp only [checkAtIssue, pursue_empty _ _ s hq, andThen_next, stillWanted_empty s _ hq, viewAll_empty s hq, h,
    Bool.false_eq_true, if_false]

end

/-! ### Nothing is open -/

/-- With no row to take in the translation buffer is as it was. -/
theorem loadTb_nil (s : State) : loadTb s [] = s := by
  unfold loadTb
  split <;> rfl

/-- Where nothing is open there is nothing to check. -/
theorem examine_idle (sz : ElemSize) (ad : Addressing) (write : Bool) {w : View} {e : QEntry} (s : State)
    (h : w.openElems e = 0) : examine sz ad write w e s = .ok s { e with checked := some [] } := by
  have hnone : elemsOf (0 : Quad) = [] := by simp [elemsOf]
  simp only [examine, h, hnone, gatherRefs, overOperands, List.any_nil, Bool.and_false, Bool.false_eq_true, if_false,
    pickFault, loadTb_nil]

/-- An instruction of which nothing is open leaves an idle vector processor at once. -/
theorem settle_enqueue_idle {e : QEntry} (next : Long) {s : State} (hq : Quiet s) (h : View.openElems ⟨s.vp, {}⟩ e = 0) :
    settle (enqueue e next s) = .next ((s.setVp (e.settle s.vp)).setPc next) := by
  obtain ⟨hsched, hqueue, hvbuf, -⟩ := hq
  have hvp : (enqueue e next s).vp = e.settle s.vp := enqueue_complete e next s hqueue h
  have hnoqueue : (enqueue e next s).vp.queue = [] := by rw [hvp, settle_frame]; exact hqueue
  have hnovbuf : (enqueue e next s).vp.vbuf = [] := by rw [hvp, settle_frame]; exact hvbuf
  have hsettle : settle (enqueue e next s) = .next (enqueue e next s) := by
    rw [settle, if_pos (by simp [enqueue, hsched]), drain_empty _ hnoqueue, andThen_next, flushVector_empty _ hnovbuf]
  rw [hsettle]
  exact congrArg (fun p => Host.Outcome.next ((s.setVp p).setPc next)) hvp

/-- ISSUE of an instruction of which nothing is open: by either method it only settles what it leaves (R182). -/
theorem issue_idle {op : VOp} {sps : List Spec} {s : State} {o : Operands} (hruns : Runs op sps o s)
    (hiota : op = .iota → (sentEntry op o s).len = 0) (hopen : View.openElems ⟨s.vp, {}⟩ (sentEntry op o s) = 0) :
    issue op sps s = .next { afterOperands o with
      vp := (sentEntry op o s).settle s.vp, draws := o.state.draws + 512 } := by
  have hruns' := hruns
  obtain ⟨ho, hi, hq, ha, hl⟩ := hruns'
  cases hmem : op.isMemory with
  | false =>
    have hcount (hop : (sentEntry op o s).op = .iota) :
        (sentEntry op o s).len = 0 ∧ (sentEntry op o s).count = some 0 := ⟨hiota hop, if_pos (hiota hop)⟩
    rw [issue_operate op sps s o ho hi hq ha hmem fun _ => hl, executed_idle _ _ hopen hcount]
  | true =>
    obtain ⟨⟨sz, ad, write⟩, hop⟩ := access_of_isMemory hmem
    cases hasync : s.cfg.isAsync with
    | true => exact (issue_move op sps s o ho hi hq ha hl hasync).1 hopen
    | false =>
      have hs := evalOperands_frame _ _ _ _ _ ho
      have hvp : o.state.spend.vp = s.vp := hs.fields.2.1
      have hq' : Quiet o.state.spend := hq.registersOnly (hs.trans (spend_registersOnly _))
      have hexamine := examine_idle sz ad write o.state.spend (w := ⟨o.state.spend.vp, {}⟩) (e := sentEntry op o s)
        (by rw [hvp]; exact hopen)
      rw [issue_checks hop hruns hasync, checkAtIssue_ok hq'.2.1 hexamine, settle_enqueue_idle _ hq' (by rw [hvp]; exact hopen),
        hvp]
      rfl

end Sys2Proof.Machine
end

section
/-! A vector length of zero (R182). -/

namespace Sys2Proof.Machine

/-! ### What settling an instruction leaves alone -/

section
variable {e : QEntry} (s p : Vp) (hu : e.op.usesLength = true)
include hu

/-- Of the instructions that take a control word only IOTA writes VCR (R343). -/
theorem vcr_settleOn : (e.settleOn s p).vcr = if e.op = .iota then e.count.getD p.vcr else p.vcr := by
  obtain ⟨op, _⟩ := e
  cases op
  case mtvp | vsync => cases hu
  all_goals rfl

/-- Of the instructions that take a control word only compares write VMR (R234, R310). -/
theorem vmr_settleOn_other (hw : e.op.writesMask = false) : (e.settleOn s p).vmr = p.vmr := by
  obtain ⟨op, _⟩ := e
  cases op
  case intCompare | floatCompare => cases hw
  case mtvp | vsync => cases hu
  all_goals rfl

end

/-- An instruction that has finished no element leaves the vector registers alone, but for a gather into its own source. -/
theorem elem_settle_untouched {e : QEntry} (hcp : e.copy = none) (hd : e.done = 0) (p : Vp) {r : BitVec 4} (k : Fin 64)
    (h : r ≠ fieldC e.cntrl ∨ e.sameRegister = false) : (e.settle p).elem r k = p.elem r k := by
  by_cases hr : r = fieldC e.cntrl
  · have hsame := h.resolve_left (not_not.mpr hr)
    rw [settle_none hcp]
    cases hw : e.op.writesReg with
    | true => rw [hr, elem_settleOn e p p hw, written_eq e hsame, hd]; simp
    | false => rw [Vp.elem, v_settleOn e p p hw]; rfl
  · exact elem_settle_other e p r k hr

/-- An instruction that has finished no element leaves VMR alone. -/
theorem vmr_settle_untouched {e : QEntry} (hcp : e.copy = none) (hd : e.done = 0) (hu : e.op.usesLength = true) (p : Vp) :
    (e.settle p).vmr = p.vmr := by
  rw [settle_none hcp]
  cases hw : e.op.writesMask with
  | true =>
    refine BitVec.eq_of_getLsbD_eq fun i hi => ?_
    have hbit := vmr_settleOn e p p hw ⟨i, hi⟩
    have hnot : (0 : Quad).getLsbD i ≠ true := by simp
    rwa [hd, if_neg hnot] at hbit
  | false => exact vmr_settleOn_other p p hu hw

/-- A gather into its own source is one by its operation and by its fields (R225). -/
theorem sameRegister_eq_false {e : QEntry} (hu : e.op.usesLength = true)
    (h : ∀ sz, e.op = .load sz .indexed → fieldB e.cntrl ≠ fieldC e.cntrl) : e.sameRegister = false := by
  unfold QEntry.sameRegister
  split
  · rename_i sz hop
    exact decide_eq_false (h sz hop)
  · rename_i hop
    rw [hop] at hu
    cases hu
  · rfl

/-- Settles O36: with a length of zero nothing is open, so that issue only settles an entry of which nothing is done. -/
theorem zeroLength : Obligations.ZeroLength := by
  intro c b x i op sps s o hmem hruns hvlr
  obtain ⟨hexec, hu⟩ := exec_lengthForm hmem s
  have hidle := hruns.2.2.1.2.1
  have hlen : (sentEntry op o s).len = 0 := (entryOf_len hu o s).trans ((currentLength_empty _ hidle).trans hvlr)
  have hcntrl : (sentEntry op o s).cntrl = controlWord o := entryOf_cntrl hu o s
  have hcount : (sentEntry op o s).count = some 0 := if_pos hlen
  have hissue := issue_idle hruns (fun _ => hlen) (openElems_of_len_zero s.vp _ hlen)
  refine ⟨_, hexec.trans hissue, rfl, fun r k hother => ?_, vmr_settle_untouched rfl rfl hu s.vp, ?_, ?_, ?_, ?_⟩
  · refine elem_settle_untouched rfl rfl s.vp k ?_
    rw [hcntrl]
    by_cases hr : r = fieldC (controlWord o)
    · exact .inr (sameRegister_eq_false hu fun sz hop heq => hother sz hop (by rwa [hcntrl] at heq) hr)
    · exact .inl hr
  · dsimp only; rw [settle_frame]
  · dsimp only; rw [settle_frame]
  · dsimp only
    rw [settle_none rfl, vcr_settleOn _ _ hu, hcount]
    rfl
  · dsimp only; rw [settle_frame]; exact hidle

end Sys2Proof.Machine
end

section
/-! Which elements raise an arithmetic exception (R240, R276, R278, R310, R322): the model's element operations against the
relations that claims use. -/

namespace Sys2Proof.Machine

/-! ### Integer parts -/

/-- A function of the magnitude, put together with the sign, is the function that the cases on the sign give. -/
theorem sign_mul_eq_ite {f : ℚ → ℤ} {g : ℕ → ℕ} {d : ℕ} (hd : 0 < d) (hzero : g 0 = 0)
    (hfg : ∀ m : ℕ, f ((m : ℚ) / d) = g m) (n : ℤ) :
    n.sign * (g n.natAbs : ℤ) = if 0 ≤ (n : ℚ) / d then f ((n : ℚ) / d) else -f (-((n : ℚ) / d)) := by
  have hd' : (0 : ℚ) < d := by exact_mod_cast hd
  obtain ⟨m, rfl | rfl⟩ := n.eq_nat_or_neg
  · have hnonneg : (0 : ℚ) ≤ ((m : ℤ) : ℚ) / d := by positivity
    have hf := hfg m
    rw [if_pos hnonneg, Int.cast_natCast, hf]
    rcases m.eq_zero_or_pos with rfl | hm
    · simp [hzero]
    · simp [Int.sign_eq_one_of_pos (by exact_mod_cast hm : (0 : ℤ) < m)]
  · rcases m.eq_zero_or_pos with rfl | hm
    · have hf := hfg 0
      simp only [Nat.cast_zero, zero_div, hzero] at hf
      simp [hf]
    · have hneg : ¬(0 : ℚ) ≤ ((-(m : ℤ) : ℤ) : ℚ) / d := by
        have hm' : (0 : ℚ) < m := by exact_mod_cast hm
        rw [not_le, Int.cast_neg, Int.cast_natCast, neg_div]
        exact neg_neg_of_pos (div_pos hm' hd')
      have hf := hfg m
      rw [if_neg hneg, Int.cast_neg, Int.cast_natCast, neg_div, neg_neg, hf]
      simp [Int.sign_eq_one_of_pos (by exact_mod_cast hm : (0 : ℤ) < m)]

/-- The model's integer part is the exact one (R322). -/
theorem Ratio.trunc_eq_truncated (r : Ratio) : r.trunc = truncated r.toRat := by
  obtain ⟨n, d⟩ := r
  rcases d.eq_zero_or_pos with rfl | hd
  · simp [Ratio.trunc, truncated, Ratio.toRat]
  · exact sign_mul_eq_ite hd (f := fun v => ⌊v⌋) (g := fun m => m / d) (Nat.zero_div d)
      (fun m => (Rat.floor_natCast_div_natCast m d).trans (Int.natCast_div m d).symm) n

/-- The model rounds to an integer as R322 says: the magnitude, ties away from zero. -/
theorem Ratio.round_eq_roundedAway (r : Ratio) : r.round = roundedAway r.toRat := by
  obtain ⟨n, d⟩ := r
  rcases d.eq_zero_or_pos with rfl | hd
  · norm_num [Ratio.round, roundedAway, Ratio.toRat]
  · refine sign_mul_eq_ite hd (f := fun v => ⌊v + 1 / 2⌋) (g := fun m => (2 * m + d) / (2 * d)) ?_ (fun m => ?_) n
    · rw [Nat.mul_zero, Nat.zero_add]
      exact Nat.div_eq_of_lt (by omega)
    · have hd' : (d : ℚ) ≠ 0 := by exact_mod_cast hd.ne'
      have hsum : (m : ℚ) / d + 1 / 2 = ((2 * m + d : ℤ) : ℚ) / ((2 * d : ℕ) : ℚ) := by
        push_cast
        field_simp
      rw [hsum, Rat.floor_intCast_div_natCast]
      norm_cast

/-! ### Integer overflow -/

theorem intOverflows_iff (n : ℤ) : intOverflows n = true ↔ Overflows n := by simp [intOverflows, Overflows]

/-- An element whose overflow is an exception raises one exactly where it is enabled and the result overflows (R240). -/
theorem overflow_types_ne_zero (b : Bool) (n : ℤ) :
    (if b && intOverflows n then AexSet.integerOverflow else 0) ≠ 0 ↔ b = true ∧ Overflows n := by
  rw [← intOverflows_iff]
  cases b <;> cases intOverflows n <;> decide

/-! ### Floating results -/

/-- Every set of exception types has an encoded reserved operand (R278). -/
theorem exists_holdsReserved (types : AexSet) : ∃ q, HoldsReserved q types :=
  ⟨(0x8000#16 ||| types.zeroExtend 16).zeroExtend 64, BitVec.eq_of_getLsbD_eq fun i hi => by
    rw [BitVec.getLsbD_extractLsb', BitVec.getLsbD_setWidth]
    simp [hi, Nat.lt_trans hi (by decide : 16 < 64)]⟩

/-- Rounding a value into a format raises in the model what it may raise. -/
theorem encode_raises_iff (fmt : FloatFmt) (x : Ratio) (b : Bool) (free : Quad) :
    (fmt.elem (fmt.encode x b) free).types ≠ 0 ↔ ∃ q types, Rounds fmt x b q types ∧ types ≠ 0 := by
  unfold Rounds
  cases fmt.encode x b with
  | ok y =>
    refine iff_of_false (fun h => h rfl) ?_
    rintro ⟨q, types, ⟨-, h0⟩, hne⟩
    exact hne h0
  | error ts =>
    constructor
    · intro hne
      obtain ⟨q, hq⟩ := exists_holdsReserved ts
      exact ⟨q, ts, ⟨hq, rfl⟩, hne⟩
    · rintro ⟨q, types, ⟨-, rfl⟩, hne⟩
      exact hne

theorem rsvdDivideTypes_ne_zero (pick : Quad) : rsvdDivideTypes pick ≠ 0 := by
  unfold rsvdDivideTypes
  split <;> decide

/-- Floating arithmetic raises in the model what R276 and R278 say it may raise. -/
theorem farith_raises_iff (fmt : FloatFmt) (op : FloatOp) (a b : Quad) (x : Bool) (pick free : Quad) :
    (fmt.elem (farith fmt op a b x pick) free).types ≠ 0 ↔ ∃ q types, FloatOutcome fmt op x a b q types ∧ types ≠ 0 := by
  obtain ⟨q4, h4⟩ := exists_holdsReserved 4
  obtain ⟨q2, h2⟩ := exists_holdsReserved 2
  by_cases hr : fmt.isRsvd a = true ∨ fmt.isRsvd b = true <;> by_cases hz : op = .div ∧ fmt.isZero b = true
  · have hf : farith fmt op a b x pick = .error (rsvdDivideTypes pick) := by simp [farith, hr, hz.1, hz.2]
    rw [hf]
    refine iff_of_true (rsvdDivideTypes_ne_zero pick) ⟨q4, 4, ?_, by decide⟩
    exact ⟨fun h => absurd hr h, fun _ h => absurd hz h, fun h => absurd hr h, fun _ _ => ⟨h4, .inr (.inl rfl)⟩⟩
  · have hf : farith fmt op a b x pick = .error AexSet.reservedOperand := by simp [farith, hr, hz]
    rw [hf]
    refine iff_of_true (by decide : (4 : AexSet) ≠ 0) ⟨q4, 4, ?_, by decide⟩
    exact ⟨fun h => absurd hr h, fun _ _ => ⟨h4, rfl⟩, fun h => absurd hr h, fun _ h => absurd h hz⟩
  · have hf : farith fmt op a b x pick = .error AexSet.divideByZero := by simp [farith, hr, hz.1, hz.2]
    rw [hf]
    refine iff_of_true (by decide : (2 : AexSet) ≠ 0) ⟨q2, 2, ?_, by decide⟩
    exact ⟨fun _ h => absurd hz h, fun h => absurd h hr, fun _ _ => ⟨h2, rfl⟩, fun h => absurd h hr⟩
  · have hf : farith fmt op a b x pick = fmt.encode (Ratio.op op (fmt.value a) (fmt.value b)) x := by simp [farith, hr, hz]
    have hout (q : Quad) (types : AexSet) : FloatOutcome fmt op x a b q types ↔
        Rounds fmt (Ratio.op op (fmt.value a) (fmt.value b)) x q types := by simp [FloatOutcome, hr, hz]
    simp only [hf, hout]
    exact encode_raises_iff _ _ _ _

/-! ### Conversions -/

/-- A conversion to a longword raises in the model what R322 says it may raise. -/
theorem convertToLong_raises_iff (fmt : FloatFmt) (rounded b : Bool) (x free : Quad) :
    (convertToLong fmt rounded b x free).types ≠ 0 ↔ ∃ q types,
      ((fmt.isRsvd x = true → types = 4) ∧
        (fmt.isRsvd x = false →
          LongOutcome ((if rounded then roundedAway else truncated) (fmt.value x).toRat) b q types)) ∧ types ≠ 0 := by
  have hn : (if rounded then roundedAway else truncated) (fmt.value x).toRat =
      if rounded then (fmt.value x).round else (fmt.value x).trunc := by
    cases rounded
    · exact (Ratio.trunc_eq_truncated _).symm
    · exact (Ratio.round_eq_roundedAway _).symm
  rw [hn]
  cases hr : fmt.isRsvd x with
  | true =>
    rw [convertToLong, if_pos hr]
    exact iff_of_true (by decide : AexSet.reservedOperand ≠ 0) ⟨0, 4, ⟨fun _ => rfl, fun h => Bool.noConfusion h⟩, by decide⟩
  | false =>
    rw [convertToLong, if_neg (by simp [hr])]
    generalize (if rounded then (fmt.value x).round else (fmt.value x).trunc) = n
    refine (overflow_types_ne_zero b n).trans ⟨fun ⟨hb, ho⟩ => ?_, ?_⟩
    · refine ⟨Quad.mk 0 (BitVec.ofInt 32 n), 32, ⟨fun h => Bool.noConfusion h, fun _ => ⟨Quad.lo_mk _ _, fun _ _ => rfl, ?_⟩⟩,
        by decide⟩
      rintro (h | h)
      · exact Bool.noConfusion (hb.symm.trans h)
      · exact absurd ho h
    · rintro ⟨q, types, ⟨-, h⟩, hne⟩
      obtain ⟨-, -, hnone⟩ := h rfl
      by_contra hno
      refine hne (hnone ?_)
      by_cases hb : b = true
      · exact .inr fun ho => hno ⟨hb, ho⟩
      · exact .inl (Bool.eq_false_iff.mpr hb)

/-- A conversion between floating formats raises in the model what R276 and R278 say it may raise. -/
theorem convertFloat_raises_iff (src dst : FloatFmt) (b : Bool) (x free : Quad) :
    (convertFloat src dst b x free).types ≠ 0 ↔ ∃ q types,
      ((src.isRsvd x = true → HoldsReserved q 4 ∧ types = 4) ∧
        (src.isRsvd x = false → Rounds dst (src.value x) b q types)) ∧ types ≠ 0 := by
  cases hr : src.isRsvd x with
  | true =>
    obtain ⟨q, hq⟩ := exists_holdsReserved 4
    rw [convertFloat, if_pos hr]
    exact iff_of_true (by decide : AexSet.reservedOperand ≠ 0)
      ⟨q, 4, ⟨fun _ => ⟨hq, rfl⟩, fun h => Bool.noConfusion h⟩, by decide⟩
  | false =>
    rw [convertFloat, if_neg (by simp [hr])]
    simpa using encode_raises_iff dst (src.value x) b free

/-- VVCVT raises in the model, by convert function, what R321 to R336 say it may raise; functions 0, 11 and 14 raise nothing. -/
theorem convertElem_raises_iff (fn : BitVec 4) (b : Bool) (x free : Quad) :
    (convertElem fn b x free).types ≠ 0 ↔ ∃ q types, ConvertOutcome fn b x q types ∧ types ≠ 0 := by
  have hreserved : (0 : AexSet) ≠ 0 ↔ ∃ (q : Quad) (types : AexSet), False ∧ types ≠ 0 := by simp
  have hfn := fn.isLt
  unfold convertElem ConvertOutcome
  generalize fn.toNat = n at hfn ⊢
  interval_cases n
  exacts [hreserved, encode_raises_iff .f _ _ _, encode_raises_iff .d _ _ _, encode_raises_iff .g _ _ _,
    convertToLong_raises_iff .f false _ _ _, convertToLong_raises_iff .f true _ _ _, convertFloat_raises_iff .f .d _ _ _,
    convertFloat_raises_iff .f .g _ _ _, convertToLong_raises_iff .d false _ _ _, convertFloat_raises_iff .d .f _ _ _,
    convertToLong_raises_iff .d true _ _ _, hreserved, convertToLong_raises_iff .g false _ _ _,
    convertFloat_raises_iff .g .f _ _ _, hreserved, convertToLong_raises_iff .g true _ _ _]

end Sys2Proof.Machine
end

section
/-! What element results depend on (R190, R191, R194 to R196). -/

namespace Sys2Proof.Machine

/-! ### What IOTA reads -/

/-- Of the numbers that satisfy something, the one at a place is the one with that many below it. -/
theorem getElem?_filter_range (f : ℕ → Bool) (n j i : ℕ) :
    ((List.range n).filter f)[j]? = some i ↔ i < n ∧ f i = true ∧ j = ((List.range i).filter f).length := by
  induction n with
  | zero => simp
  | succ n ih =>
    rw [List.range_succ, List.filter_append, List.getElem?_append]
    by_cases hj : j < ((List.range n).filter f).length
    · rw [if_pos hj, ih]
      refine and_congr_left fun ⟨_, hi⟩ => ⟨fun h => by omega, fun h => ?_⟩
      rcases Nat.lt_succ_iff_lt_or_eq.mp h with h | rfl
      · exact h
      · omega
    · have hbelow : ¬(i < n ∧ f i = true ∧ j = ((List.range i).filter f).length) := by
        rw [← ih, List.getElem?_eq_none (Nat.le_of_not_lt hj)]
        simp
      rw [if_neg hj]
      by_cases hf : f n = true
      · have hone : [n].filter f = [n] := by simp [hf]
        rw [hone, List.getElem?_singleton]
        constructor
        · intro h
          split at h
          · obtain rfl := Option.some.inj h
            exact ⟨Nat.lt_succ_self _, hf, by omega⟩
          · cases h
        · rintro ⟨hi, hfi, hji⟩
          rcases Nat.lt_succ_iff_lt_or_eq.mp hi with hi | rfl
          · exact absurd ⟨hi, hfi, hji⟩ hbelow
          · rw [if_pos (by omega)]
      · have hnil : [n].filter f = [] := by simp [hf]
        rw [hnil]
        refine iff_of_false (by simp) ?_
        rintro ⟨hi, hfi, hji⟩
        rcases Nat.lt_succ_iff_lt_or_eq.mp hi with hi | rfl
        · exact hbelow ⟨hi, hfi, hji⟩
        · exact hf hfi

/-! ### Exceptions and sources of an element -/

/-- The scalar operand of an instruction that accesses no memory is its second one (R149). -/
theorem entryOf_scalar {op : VOp} (hm : op.isMemory = false) (o : Operands) (s : State) :
    (entryOf op o s).scalar = o.value 1 := by
  cases op
  case load | store => cases hm
  all_goals rfl

/-- Element `i`'s sources are Vb, and Va in the vector-vector form (R191). -/
theorem sourcesTainted_iff (p : Vp) (e : QEntry) (form : Form) (i : Nat) :
    sourcesTainted p e form i = true ↔
      p.tainted (fieldB e.cntrl) i = true ∨ (form = .vv ∧ p.tainted (fieldA e.cntrl) i = true) := by
  cases form <;> simp [sourcesTainted]

section
variable {op : VOp} {o : Operands} {s : State} {e : QEntry} (hop : e.op = op) (hcntrl : e.cntrl = controlWord o)
  (hm : op.isMemory = false) (hu : op.usesLength = true) (k : Fin 64)
include hop hcntrl hm hu

/-- An element raises an exception in the model exactly where claims say so. -/
theorem effectOf_raises_iff (hscalar : e.scalar = o.value 1) :
    ((effectOf e s.vp).elem k).types ≠ 0 ↔ Raises op s o k := by
  have hfirst (form : Form) : firstOperand s.vp e form k = firstValue form s o k := by
    cases form <;> simp only [firstOperand, firstValue, hcntrl, hscalar]
  have hnever : (0 : AexSet) ≠ 0 ↔ False := by simp
  cases op with
  | intArith io form =>
    simp only [effectOf, hop, intArithEffect, hfirst, hcntrl]
    cases io <;> exact overflow_types_ne_zero _ _
  | floatArith fmt fo form =>
    simp only [effectOf, hop, floatArithEffect, hfirst, hcntrl]
    exact farith_raises_iff fmt fo _ _ _ _ _
  | floatCompare fmt form =>
    simp only [effectOf, hop, floatCompareEffect, floatCompare, hfirst, hcntrl, Raises, secondValue, Bool.or_eq_true]
    split
    · rename_i hr
      exact iff_of_true (by decide : AexSet.reservedOperand ≠ 0) hr
    · rename_i hr
      exact iff_of_false (fun h => h rfl) hr
  | convert =>
    simp only [effectOf, hop, convertEffect, hcntrl]
    exact convertElem_raises_iff _ _ _ _
  | iota =>
    simp only [effectOf, hop, iotaEffect]
    split <;> exact hnever
  | intCompare form | logical lo form | shift so form | merge form =>
    simp only [effectOf, hop]
    exact hnever
  | load | store => cases hm
  | mtvp | vsync | undefine => cases hu

/-- The sources of an element depend on an unreported exception in the model exactly where claims say so. -/
theorem effectOf_src_iff (hlen : e.len = s.vp.vlr) : (effectOf e s.vp).src k = true ↔ SourcesDepend op s o k := by
  cases op with
  | intArith _ form | floatArith _ _ form | floatCompare _ form | intCompare form | logical _ form | shift _ form =>
    simp only [effectOf, hop]
    refine (sourcesTainted_iff s.vp e form k).trans ?_
    rw [hcntrl]
    rfl
  | convert =>
    simp only [effectOf, hop, convertEffect, hcntrl]
    rfl
  | merge form =>
    simp only [effectOf, hop, mergeEffect, hcntrl, matchesMtf, mtf, SourcesDepend, Bool.or_eq_true, beq_iff_eq]
    refine or_congr_right ?_
    by_cases hmask : s.vp.vmr.getLsbD k = (controlWord o).getLsbD 14
    · rw [if_pos hmask, if_pos hmask]
      cases form <;> simp
    · rw [if_neg hmask, if_neg hmask]
  | iota =>
    simp only [effectOf, hop, iotaEffect, iotaPositions, hcntrl, hlen, SourcesDepend]
    have hplace := getElem?_filter_range (fun i => matchesMtf s.vp (controlWord o) i) s.vp.vlr.toNat k
    cases hget : ((List.range s.vp.vlr.toNat).filter fun i => matchesMtf s.vp (controlWord o) i)[k.val]? with
    | none =>
      refine iff_of_false Bool.false_ne_true ?_
      rintro ⟨i, hi, hmatch, hk, -⟩
      cases hget.symm.trans ((hplace i).mpr ⟨hi, hmatch, hk⟩)
    | some i =>
      obtain ⟨hi, hmatch, hk⟩ := (hplace i).mp hget
      simp only [List.any_eq_true, List.mem_range]
      constructor
      · rintro ⟨j, hj, htaint⟩
        exact ⟨i, hi, hmatch, hk, j, Nat.le_of_lt_succ hj, htaint⟩
      · rintro ⟨i', hi', hmatch', hk', j, hj, htaint⟩
        obtain rfl : i' = i := Option.some.inj (((hplace i').mpr ⟨hi', hmatch', hk'⟩).symm.trans hget)
        exact ⟨j, Nat.lt_succ_of_le hj, htaint⟩
  | load | store => cases hm
  | mtvp | vsync | undefine => cases hu

end

/-! ### What the results depend on -/

/-- The dependence of an element that an instruction leaves alone, above VLR, is the old one (R190). -/
theorem getLsbD_taintDest_above {e : QEntry} (p : Vp) (old : Quad) {i : Nat} (hi : i < 64) (hw : e.written.getLsbD i = false)
    (hlen : e.len.toNat ≤ i) : (e.taintDest p old).getLsbD i = old.getLsbD i := by
  have hinactive : e.isActive p.vmr i = false := by simp [QEntry.isActive, active, Nat.not_lt.mpr hlen]
  rw [QEntry.taintDest, getLsbD_maskOf, hw, hinactive]
  simp [hi, Nat.not_lt.mpr hlen]

/-- Settling an instruction leaves alone what the elements of other registers depend on. -/
theorem tainted_settleOn_other (e : QEntry) (s p : Vp) {r : BitVec 4} (k : Nat)
    (h : e.op.writesReg = false ∨ r ≠ fieldC e.cntrl) : (e.settleOn s p).tainted r k = p.tainted r k := by
  have hreg : r ≠ fieldC e.cntrl → (e.settleReg s p).tainted r k = p.tainted r k := fun hr => by
    have hne : (fieldC e.cntrl).toNat ≠ r.toNat := fun h => hr (BitVec.eq_of_toNat_eq h.symm)
    simp only [Vp.tainted, QEntry.settleReg, Vector.getElem_set_ne _ _ hne]
  obtain ⟨op, _⟩ := e
  cases op
  case intCompare | floatCompare | store | vsync => rfl
  case mtvp r => cases r <;> rfl
  all_goals exact hreg (h.resolve_left fun hw => Bool.noConfusion hw)

section
variable (e : QEntry) (p : Vp) (hcp : e.copy = none) (hd : e.done = 0)
include hcp

theorem tainted_executed_other {r : BitVec 4} (k : Nat) (h : e.op.writesReg = false ∨ r ≠ fieldC e.cntrl) :
    (executed e p).tainted r k = p.tainted r k := by
  rw [executed_none e p hcp]
  refine (tainted_settleOn_other (finishElems e _ _) _ _ k h).trans ?_
  rw [Vp.tainted, Vp.taint_recordAex]
  rfl

include hd

omit hcp in
/-- An executed instruction has written nothing above VLR. -/
theorem written_finishElems_above (hs : e.sameRegister = false) {i : Nat} (hi : e.len.toNat ≤ i) :
    (finishElems e ⟨p, {}⟩ (View.openElems ⟨p, {}⟩ e)).written.getLsbD i = false := by
  rw [written_eq (finishElems e _ _) hs, finishElems_done, hd, zero_or_mask, getLsbD_openElems]
  simp [QEntry.isActive, active, Nat.not_lt.mpr hi]

variable (hs : e.sameRegister = false) (k : Fin 64) (hk : e.len.toNat ≤ k.val)
include hs hk

/-- The elements of the destination register at and above VLR depend on what they did before (R190). -/
theorem tainted_executed_above (hw : e.op.writesReg = true) :
    (executed e p).tainted (fieldC e.cntrl) k = p.tainted (fieldC e.cntrl) k := by
  rw [executed_none e p hcp]
  refine (congrArg (fun m : Quad => m.getLsbD k) (taint_settleOn (finishElems e _ _) _ _ hw)).trans ?_
  rw [getLsbD_taintDest_above _ _ k.isLt (written_finishElems_above e p hd hs hk) hk, Vp.taint_recordAex]
  rfl

/-- The mask bits at and above VLR depend on what they did before (R190). -/
theorem tainted_executed_mask_above (hw : e.op.writesMask = true) :
    (executed e p).taint.vmr.getLsbD k = p.taint.vmr.getLsbD k := by
  rw [executed_none e p hcp]
  refine (congrArg (fun m : Quad => m.getLsbD k) (taint_settleOn_mask (finishElems e _ _) _ _ hw)).trans ?_
  rw [getLsbD_taintDest_above _ _ k.isLt (written_finishElems_above e p hd hs hk) hk, Vp.taint_recordAex]

end

/-- An instruction that takes a control word and accesses no memory writes a register, if not the mask. -/
theorem VOp.writesReg_eq_not_writesMask {op : VOp} (hm : op.isMemory = false) (hu : op.usesLength = true) :
    op.writesReg = !op.writesMask := by
  cases op
  case load | store => cases hm
  case mtvp | vsync => cases hu
  all_goals rfl

/-- Settles O35: issue executes the instruction, whose elements depend on their own exceptions, their sources and their mask
bits (`tainted_executed`); `effectOf_raises_iff` and `effectOf_src_iff` say which these are. -/
theorem dependencesOfResults : Obligations.DependencesOfResults := by
  intro c b x i op sps s o hmem hm hruns depends
  obtain ⟨hexec, hu⟩ := exec_lengthForm hmem s
  obtain ⟨ho, hi, hq, ha, hl⟩ := hruns
  have hcntrl : (sentEntry op o s).cntrl = controlWord o := entryOf_cntrl hu o s
  have hlen : (sentEntry op o s).len = s.vp.vlr := (entryOf_len hu o s).trans (currentLength_empty _ hq.2.1)
  have hsame : (sentEntry op o s).sameRegister = false := sameRegister_of_not_memory _ hm hu
  have hwrites := VOp.writesReg_eq_not_writesMask hm hu
  refine ⟨_, hexec.trans (issue_operate op sps s o ho hi hq ha hm fun _ => hl), fun k hk => ?_, fun k hk => ?_, fun r k hr => ?_⟩
  · have hopen := (openElems_sentEntry hu o hq.2.1 k).mpr hk
    have hraises := effectOf_raises_iff (op := op) (s := s) (e := sentEntry op o s) rfl hcntrl hm hu k (entryOf_scalar hm o s)
    have hsources := effectOf_src_iff (op := op) (s := s) (e := sentEntry op o s) rfl hcntrl hm hu k hlen
    have hdepends : depends { afterOperands o with
          vp := executed (sentEntry op o s) s.vp, draws := o.state.draws + 512 } k =
        (decide (((effectOf (sentEntry op o s) s.vp).elem k).types ≠ 0) || (effectOf (sentEntry op o s) s.vp).src k ||
          (moe (controlWord o) && s.vp.taint.vmr.getLsbD k)) := by
      rw [← hcntrl]
      cases hw : op.writesMask with
      | true =>
        simp only [depends, hw, if_true]
        exact tainted_executed_mask _ _ rfl rfl hw rfl k hopen
      | false =>
        simp only [depends, hw, Bool.false_eq_true, if_false, ← hcntrl]
        exact tainted_executed _ _ rfl rfl (hwrites.trans (by rw [hw]; rfl)) rfl k hopen
    rw [hdepends, Bool.or_eq_true, Bool.or_eq_true, Bool.and_eq_true, decide_eq_true_eq, hraises, hsources, or_assoc]
    rfl
  · have hk' : (sentEntry op o s).len.toNat ≤ k.val := by rw [hlen]; exact hk
    cases hw : op.writesMask with
    | true =>
      simp only [depends, hw, if_true]
      exact tainted_executed_mask_above _ _ rfl rfl hsame k hk' hw
    | false =>
      simp only [depends, hw, Bool.false_eq_true, if_false, ← hcntrl]
      exact tainted_executed_above _ _ rfl rfl hsame k hk' (hwrites.trans (by rw [hw]; rfl))
  · refine tainted_executed_other _ _ rfl k ?_
    rw [hcntrl]
    exact hr.imp_left fun hw => hwrites.trans (by rw [hw]; rfl)

end Sys2Proof.Machine
end

section
/-! Sending a vector memory instruction to an idle vector processor whose references pass: by either method it joins the queue
and executes at once (R174, R176, R199). -/

namespace Sys2Proof.Machine

/-! ### Sending -/

/-- By the asynchronous method an instruction is sent unchecked (R413). -/
theorem issue_sends {op : VOp} {sps : List Spec} {s : State} {o : Operands} (hruns : Runs op sps o s)
    (hasync : s.cfg.isAsync = true) : issue op sps s = settle (enqueue (sentEntry op o s) o.next o.state.spend) := by
  obtain ⟨ho, hi, hq, ha, hl⟩ := hruns
  have hs := evalOperands_frame _ _ _ _ _ ho
  have hasync' : o.state.spend.cfg.isAsync = true := by rw [State.spend_cfg, hs.fields.1]; exact hasync
  rw [issue_send _ sps s o ho hi hq ha fun _ => hl, send, queueFull_empty _ (hq.registersOnly hs).2.1,
    if_neg Bool.false_ne_true]
  simp only [hasync']

/-- An instruction of which something is open starts on an idle vector processor, and executes what is open of it; what it
writes becomes visible (log entry 3). -/
theorem settle_enqueue_open {e : QEntry} (next : Long) {s : State} (hq : Quiet s) (hf : e.fault = none)
    (h : View.openElems ⟨s.vp, {}⟩ e ≠ 0) :
    settle (enqueue e next s) = andThen (runElems 0 allElements none
      ((s.setPc next).setVp { s.vp with queue := [{ e with started := true }] })) fun t => .next t.flushVector := by
  obtain ⟨hsched, hqueue, -, hhalted⟩ := hq
  have henqueue : enqueue e next s = (s.setPc next).setVp { s.vp with queue := [e] } :=
    congrArg (s.setPc next).setVp (enqueue_open e next s hqueue h)
  have hsched' : (enqueue e next s).sched.isEmpty = true := by simp [enqueue, hsched]
  let queued := (s.setPc next).setVp { s.vp with queue := [e] }
  have hdrain : drain queued = runElems 0 allElements none (queued.startTo 0) := drain_single queued e rfl hf hhalted
  rw [startTo_single queued e rfl] at hdrain
  rw [settle, if_pos hsched', henqueue, hdrain]
  rfl

/-! ### References that pass -/

/-- The checks of a mask of elements have passed, at the addresses `pa`. -/
def Passed (refs : Refs) (m : Quad) (pa : Fin 64 → Nat) : Prop :=
  refs.oks = accessesOf m pa ∧ refs.faults = [] ∧ refs.refusal = none

/-- What has been checked passes without a further check (R174). -/
theorem moveRefs_checked {e : QEntry} {m : Quad} {pa : Fin 64 → Nat} (hck : e.checked = some (accessesOf m pa)) (s : State)
    (p : Vp) (ad : Addressing) (size : Nat) (write : Bool) : Passed (moveRefs s e p ad size write m) m pa := by
  have hall : (accessesOf m pa).filter (fun x => m.getLsbD x.1) = accessesOf m pa :=
    List.filter_eq_self.mpr fun x hx => by
      obtain ⟨k, hk, rfl⟩ := mem_accessesOf.mp hx
      exact hk
  simp only [Passed, moveRefs, hck, hall, and_self]

/-- The check at issue of references that pass, none over the operands, sends the instruction with their addresses (R174). -/
theorem examine_pass {sz : ElemSize} {ad : Addressing} {write : Bool} {e : QEntry} {s : State} {pa : Fin 64 → Nat}
    (hpass : ∀ k : Fin 64, (View.openElems ⟨s.vp, {}⟩ e).getLsbD k = true → ∀ pick,
      checkRef s e.mode write sz.bytes (vectorRow s e pick (elemAddress ad e s.vp k)) (elemAddress ad e s.vp k) = .ok (pa k))
    (hguards : write = true → ∀ k : Fin 64, (View.openElems ⟨s.vp, {}⟩ e).getLsbD k = true → ∀ g ∈ e.guards,
      g < pa k ∨ pa k + sz.bytes ≤ g) :
    ∃ rows, examine sz ad write ⟨s.vp, {}⟩ e s =
      .ok (loadTb s rows) { e with checked := some (accessesOf (View.openElems ⟨s.vp, {}⟩ e) pa) } := by
  obtain ⟨hoks, hfaults, hrefusal⟩ := gatherRefs_ok s e ad sz.bytes write pa (elemsOf (View.openElems ⟨s.vp, {}⟩ e))
    fun k hk => hpass k ((mem_elemsOf _ k).mp hk)
  have hover : (write && overOperands sz.bytes e (accessesOf (View.openElems ⟨s.vp, {}⟩ e) pa)) = false := by
    cases write with
    | false => rfl
    | true => exact overOperands_eq_false (hguards rfl)
  refine ⟨(gatherRefs s e s.vp ad sz.bytes write (elemsOf (View.openElems ⟨s.vp, {}⟩ e))).rows, ?_⟩
  have hoks' : (gatherRefs s e s.vp ad sz.bytes write (elemsOf (View.openElems ⟨s.vp, {}⟩ e))).oks =
      accessesOf (View.openElems ⟨s.vp, {}⟩ e) pa := hoks
  simp only [examine, hrefusal, hfaults, pickFault, hoks', hover, Bool.false_eq_true, if_false]

/-- What taking in translations changes: the translation buffer. -/
theorem loadTb_eq (s : State) (rows : List MapRow) : loadTb s rows = s.setVp { s.vp with tb := (loadTb s rows).vp.tb } := by
  unfold loadTb
  split <;> rfl

section
variable {op : VOp} {sz : ElemSize} {ad : Addressing} {write : Bool} {sps : List Spec} {s : State} {o : Operands}
  {pa : Fin 64 → Nat}

/-- What an instruction that is sent is as it starts, with what the check at issue has given. -/
def startedEntry (op : VOp) (o : Operands) (s : State) (checked : Option (List (Nat × Nat))) : QEntry :=
  { sentEntry op o s with checked := checked, started := true }

/-- The machine as an instruction that has been sent to an idle vector processor starts. -/
def startedState (e : QEntry) (tb : List MapRow) (o : Operands) (s : State) : State :=
  { afterOperands o with vp := { s.vp with queue := [e], tb := tb }, draws := o.state.draws + 512 }

/-- ISSUE of a memory instruction of which something is open and whose references pass: by either method it executes with its
references passed. -/
theorem issue_move_pass (hop : op.access = some (sz, ad, write)) (hruns : Runs op sps o s)
    (href : References write sz ad (entryOf op o s) s pa)
    (hguards : write = true → ∀ k, Active s o k → ∀ g ∈ o.guards, g < pa k ∨ pa k + sz.bytes ≤ g)
    (hopen : View.openElems ⟨s.vp, {}⟩ (sentEntry op o s) ≠ 0) :
    ∃ checked tb, Passed (moveRefs (startedState (startedEntry op o s checked) tb o s) (startedEntry op o s checked)
        (startedState (startedEntry op o s checked) tb o s).vp ad sz.bytes write (View.openElems ⟨s.vp, {}⟩ (sentEntry op o s))) (View.openElems ⟨s.vp, {}⟩ (sentEntry op o s)) pa ∧
      issue op sps s = andThen (runElems 0 allElements none (startedState (startedEntry op o s checked) tb o s))
        fun t => .next t.flushVector := by
  have hs := evalOperands_frame _ _ _ _ _ hruns.1
  have hq' : Quiet o.state.spend := hruns.2.2.1.registersOnly (hs.trans (spend_registersOnly _))
  have hvp : o.state.spend.vp = s.vp := hs.fields.2.1
  have hactive (k : Fin 64) (hk : (View.openElems ⟨s.vp, {}⟩ (sentEntry op o s)).getLsbD k = true) :
      (entryOf op o s).isActive s.vp.vmr k = true := by
    rw [getLsbD_openElems, Bool.and_eq_true] at hk
    exact hk.2
  cases hasync : s.cfg.isAsync with
  | true =>
    let e : QEntry := startedEntry op o s none
    have hwalk : SameWalk s (startedState e s.vp.tb o s) := ⟨hs.fields.1, hs.sameWalk.2.1, hs.sameWalk.2.2.1, rfl, rfl⟩
    refine ⟨none, s.vp.tb, moveRefs_pass (s := startedState e s.vp.tb o s) (e := e) (fun k hk pick => ?_) rfl, ?_⟩
    · rw [hwalk.checkRef, hwalk.vectorRow]
      exact href k (hactive k hk) pick
    · rw [issue_sends hruns hasync, settle_enqueue_open _ hq' rfl (by rw [hvp]; exact hopen), hvp]
      rfl
  | false =>
    have hwalk : SameWalk s o.state.spend := hs.sameWalk
    have hmem : op.isMemory = true := VOp.isMemory_of_access hop
    have hu : op.usesLength = true := by cases op <;> first | rfl | cases hmem
    have hguard (g : Nat) (hg : g ∈ (sentEntry op o s).guards) : g ∈ o.guards := by
      have hsent : (sentEntry op o s).guards = o.guards := if_pos hmem
      rwa [hsent] at hg
    obtain ⟨rows, hexamine⟩ := examine_pass (sz := sz) (ad := ad) (write := write) (e := sentEntry op o s)
      (s := o.state.spend) (pa := pa)
      (fun k hk pick => by
        rw [hvp] at hk ⊢
        rw [hwalk.checkRef, hwalk.vectorRow]
        exact href k (hactive k hk) pick)
      (fun hwrite k hk g hg => by
        rw [hvp] at hk
        exact hguards hwrite k ((openElems_sentEntry hu o hruns.2.2.1.2.1 k).mp hk) g (hguard g hg))
    have hloaded := loadTb_eq o.state.spend rows
    generalize (loadTb o.state.spend rows).vp.tb = tb at hloaded
    rw [hloaded, hvp] at hexamine
    refine ⟨_, tb, moveRefs_checked rfl _ _ _ _ _, ?_⟩
    rw [issue_checks hop hruns hasync, checkAtIssue_ok hq'.2.1 (by rw [hvp]; exact hexamine),
      settle_enqueue_open (s := o.state.spend.setVp { s.vp with tb := tb }) _ ?_ rfl ?_]
    · rfl
    · exact ⟨hq'.1, hruns.2.2.1.2⟩
    · exact hopen

end

end Sys2Proof.Machine
end

section
/-! A gather whose source is its destination (R225; log entry 55). -/

namespace Sys2Proof.Machine

/-! ### What it leaves -/

/-- What settling a load changes: the vector registers, and what depends on an unreported exception. -/
theorem settle_load_frame {e : QEntry} {sz : ElemSize} {ad : Addressing} (hop : e.op = .load sz ad) (hcp : e.copy = none)
    (p : Vp) : e.settle p = { p with v := (e.settle p).v, taint := (e.settle p).taint } := by
  rw [settle_none hcp]
  obtain ⟨op, _⟩ := e
  subst hop
  rfl

/-- What an entry settles that was alone in the queue is what it settles where the queue is empty. -/
theorem settle_dequeue (e : QEntry) (p : Vp) (hp : p.queue = []) (q : List QEntry) :
    { e.settle { p with queue := q } with queue := [] } = e.settle p := by
  have hnone : (e.settle p).queue = [] := by rw [settle_frame]; exact hp
  rw [settle_queue]
  generalize e.settle p = x at hnone ⊢
  dsimp only
  rw [← hnone]

/-- A gather into its own source, which has not been given up, writes every element of it. -/
theorem written_sameRegister {e : QEntry} (hsame : e.sameRegister = true) (hleft : e.left = 0) : e.written = allElements := by
  have hreplaces : e.replaces = true := by rw [QEntry.replaces, hsame, hleft]; simp
  rw [QEntry.written, if_pos hreplaces]

section
variable {e : QEntry} {sz : ElemSize} (hop : e.op = .load sz .indexed) (hcp : e.copy = none) (hleft : e.left = 0)
  (hsame : e.sameRegister = true)
include hop hcp hleft hsame

/-- Every element of the register is what the gather leaves there. -/
theorem elem_settle_sameRegister (p : Vp) (k : Fin 64) : (e.settle p).elem (fieldC e.cntrl) k = e.result k := by
  rw [settle_none hcp, elem_settleOn e p p (by rw [hop]; rfl), written_sameRegister hsame hleft, getLsbD_allElements,
    if_pos (decide_eq_true k.isLt)]

/-- Every element of it below VLR depends on its mask bit (R192). -/
theorem tainted_settle_sameRegister (p : Vp) (k : Fin 64) (hk : k.val < e.len.toNat) (hm : moe e.cntrl = true)
    (ht : p.taint.vmr.getLsbD k = true) : (e.settle p).tainted (fieldC e.cntrl) k = true := by
  have hwritten : e.written.getLsbD k = true := by
    rw [written_sameRegister hsame hleft, getLsbD_allElements, decide_eq_true k.isLt]
  rw [settle_none hcp, Vp.tainted, taint_settleOn e p p (by rw [hop]; rfl), getLsbD_taintDest _ _ _ _ hwritten, hm,
    decide_eq_true hk, ht]
  simp

end

/-! ### How it executes -/

/-- A gather into its own source whose references pass makes every element of it a free value as soon as it accesses one. -/
theorem moveLoad_sameRegister {sz : ElemSize} {ad : Addressing} {w : View} {e : QEntry} {m : Quad} {s : State}
    {pa : Fin 64 → Nat} (hpass : Passed (moveRefs s e w.p ad sz.bytes false m) m pa) (hsame : e.sameRegister = true)
    (hd : e.done = 0) :
    ∃ rows e', moveLoad sz ad w e m none s = .ok (loadTb s rows) e' ∧ e.OnlyProgress e' ∧ e'.done = e.done ||| m ∧
      ∀ k : Fin 64, e'.res[k] = elemDraw e.draw k := by
  obtain ⟨hoks, hfaults, hrefusal⟩ := hpass
  have hwhole : decide ((span s.cfg sz none).2 = sz.bytes) = true := decide_eq_true rfl
  unfold moveLoad
  simp only [hoks, hfaults, hrefusal, pickFault, hwhole, if_true, Option.isSome_some, List.filter_true]
  refine ⟨_, _, rfl, rfl, ?_, fun k => ?_⟩
  · simp only [markAccessed, accessMask_accessesOf]
  · have hdone : decide (e.done = 0) = true := decide_eq_true hd
    simp only [loadResults, Fin.getElem_fin, Vector.getElem_ofFn, hsame, if_true, QEntry.result, hdone, Bool.and_self]

/-- At the head of the queue it completes, and leaves the registers as an entry of which every result is a free value. -/
theorem runElems_sameRegister {sz : ElemSize} {ad : Addressing} {e : QEntry} {s : State} {pa : Fin 64 → Nat}
    (hq : s.vp.queue = [e]) (hl : e.len.toNat ≤ 64) (hop : e.op = .load sz ad) (hcp : e.copy = none)
    (hsame : e.sameRegister = true) (hd : e.done = 0) (hopen : View.openElems ⟨s.vp, {}⟩ e ≠ 0)
    (hpass : Passed (moveRefs s e s.vp ad sz.bytes false (View.openElems ⟨s.vp, {}⟩ e)) (View.openElems ⟨s.vp, {}⟩ e) pa) :
    ∃ tb r, runElems 0 allElements none s = .next (s.setVp { r.settle { s.vp with tb := tb } with queue := [] }) ∧
      e.OnlyProgress r ∧ ∀ k, r.result k = elemDraw e.draw k := by
  obtain ⟨rows, e', hmove, hprogress, hdone, hres⟩ :=
    moveLoad_sameRegister (w := ⟨s.vp, {}⟩) hpass hsame hd
  have hloaded := loadTb_eq s rows
  generalize (loadTb s rows).vp.tb = tb at hloaded
  rw [hloaded] at hmove
  have hrun := runElems_load hq hl (by rw [sees_none hcp]; exact hopen) hop
  rw [sees_none hcp, hmove,
    settleMove_complete (s := s) (s' := s.setVp { s.vp with tb := tb }) hq rfl hprogress hdone] at hrun
  refine ⟨tb, _, hrun, resume_progress _ _ _ hprogress, fun k => ?_⟩
  have hr := resume_progress e e' ⟨s.vp, {}⟩ hprogress
  have hrres : (e'.resume ⟨s.vp, {}⟩).res = e'.res := by rw [resume_frame]
  generalize e'.resume ⟨s.vp, {}⟩ = r at *
  have hrdraw : r.draw = e.draw := by rw [hr]
  unfold QEntry.result
  split
  · rw [hrdraw]
  · rw [hrres, hres]

/-! ### Issue -/

theorem exec_loadForm {c b x : Spec} {i : Instr} {sz : ElemSize} {ad : Addressing} {sps : List Spec}
    (h : (i, sz, ad, sps) ∈ loadForms c b x) (s : State) : exec i s = issue (.load sz ad) sps s := by
  have hmem : (i, VOp.load sz ad, sps) ∈ lengthForms c b x :=
    List.mem_append_left _ (List.mem_append_right _ (List.mem_map_of_mem h))
  exact (exec_lengthForm hmem s).1

/-- ISSUE of a gather into its own source whose references pass: it settles an entry, as sent but for its progress, of which
every result is a free value. -/
theorem issue_sameRegister {sz : ElemSize} {sps : List Spec} {s : State} {o : Operands} {pa : Fin 64 → Nat}
    (hruns : Runs (.load sz .indexed) sps o s) (hsrc : fieldB (controlWord o) = fieldC (controlWord o))
    (href : References false sz .indexed (entryOf (.load sz .indexed) o s) s pa) :
    ∃ tb r checked, (startedEntry (.load sz .indexed) o s checked).OnlyProgress r ∧
      (∀ k, r.result k = elemDraw o.state.draws k) ∧
      issue (.load sz .indexed) sps s = .next { afterOperands o with
        vp := r.settle { s.vp with tb := tb }, draws := o.state.draws + 512 } := by
  have hsame : (sentEntry (.load sz .indexed) o s).sameRegister = true := decide_eq_true hsrc
  obtain ⟨-, hqueue, hvbuf, -⟩ := hruns.2.2.1
  by_cases hopen : View.openElems ⟨s.vp, {}⟩ (sentEntry (.load sz .indexed) o s) = 0
  · refine ⟨s.vp.tb, startedEntry (.load sz .indexed) o s none, none, rfl, fun k => ?_, ?_⟩
    · have hres : (sentEntry (.load sz .indexed) o s).result k = elemDraw o.state.draws k := by
        rw [QEntry.result, hsame]
        rfl
      exact hres
    · exact issue_idle hruns (fun h => VOp.noConfusion h) hopen
  · obtain ⟨checked, tb₀, hpass, hissue⟩ := issue_move_pass rfl hruns href (fun h => Bool.noConfusion h) hopen
    obtain ⟨tb, r, hrun, hprogress, hres⟩ := runElems_sameRegister
      (s := startedState (startedEntry (.load sz .indexed) o s checked) tb₀ o s)
      (e := startedEntry (.load sz .indexed) o s checked) rfl (sentEntry_len _ o s hqueue fun _ => hruns.2.2.2.2) rfl rfl
      hsame rfl hopen hpass
    have hvp : { r.settle { s.vp with queue := [startedEntry (.load sz .indexed) o s checked], tb := tb } with queue := [] } =
        r.settle { s.vp with tb := tb } :=
      settle_dequeue r { s.vp with tb := tb } hqueue _
    have hnovbuf : (r.settle { s.vp with tb := tb }).vbuf = [] := by rw [settle_frame]; exact hvbuf
    have hstate : (startedState (startedEntry (.load sz .indexed) o s checked) tb₀ o s).setVp
        { r.settle { s.vp with queue := [startedEntry (.load sz .indexed) o s checked], tb := tb } with queue := [] } =
        { afterOperands o with vp := r.settle { s.vp with tb := tb }, draws := o.state.draws + 512 } :=
      congrArg (startedState _ tb₀ o s).setVp hvp
    refine ⟨tb, r, checked, hprogress, hres, ?_⟩
    rw [hissue, hrun, andThen_next]
    exact congrArg Host.Outcome.next ((congrArg State.flushVector hstate).trans (flushVector_empty _ hnovbuf))

/-- Settles O21: issue settles an entry of which every result is a free value, which replaces the whole register. -/
theorem gatherSameRegister : Obligations.GatherSameRegister := by
  intro c b x i sz sps s o pa hmem hruns hsrc href
  obtain ⟨tb, r, checked, hprogress, hres, hissue⟩ := issue_sameRegister hruns hsrc href
  have hop : r.op = .load sz .indexed := by rw [hprogress]; rfl
  have hcp : r.copy = none := by rw [hprogress]; rfl
  have hleft : r.left = 0 := by rw [hprogress]; rfl
  have hcntrl : r.cntrl = controlWord o := by rw [hprogress]; rfl
  have hlen : r.len = s.vp.vlr := by
    rw [hprogress]
    exact currentLength_empty _ hruns.2.2.1.2.1
  have hsame : r.sameRegister = true := by
    rw [hprogress]
    exact decide_eq_true hsrc
  refine ⟨_, (exec_loadForm hmem s).trans hissue, rfl, ?_, fun q k hq => ?_, ⟨o.state.draws, fun k => ?_⟩, fun k hk hm ht => ?_⟩
  · have hframe := settle_load_frame hop hcp { s.vp with tb := tb }
    dsimp only
    generalize r.settle { s.vp with tb := tb } = q at hframe ⊢
    rw [hframe]
    rfl
  · exact elem_settle_other r _ q k (by rw [hcntrl]; exact hq)
  · rw [resultOf, ← hcntrl]
    exact (elem_settle_sameRegister hop hcp hleft hsame _ k).trans (hres k)
  · rw [← hcntrl]
    exact tainted_settle_sameRegister hop hcp hleft hsame _ k (by rw [hlen]; exact hk) (by rw [hcntrl]; exact hm) ht

end Sys2Proof.Machine
end

section
/-! References of which some meet a memory-management exception (R408, R409, R416): what the checks collect, and what a move does
before the exception is reported. -/

namespace Sys2Proof.Machine

/-- The check of element `k`'s reference, with the translation that `pick` chooses (R117, R408). -/
def elemCheck (s : State) (e : QEntry) (ad : Addressing) (size : Nat) (write : Bool) (pick : Quad) (k : Fin 64) : RefCheck :=
  checkRef s e.mode write size (vectorRow s e pick (elemAddress ad e s.vp k)) (elemAddress ad e s.vp k)

/-- Of the elements `m` no reference is refused, and one meets an exception whichever translation is used. -/
def MeetsException (s : State) (e : QEntry) (ad : Addressing) (size : Nat) (write : Bool) (m : Quad) : Prop :=
  (∀ k : Fin 64, m.getLsbD k = true → ∀ pick r, elemCheck s e ad size write pick k ≠ .refused r) ∧
    ∃ k : Fin 64, m.getLsbD k = true ∧ ∀ pick, ∃ fs, elemCheck s e ad size write pick k = .fails fs

/-- The exception is one that the check of an element of `m` gives (R409). -/
def Reportable (s : State) (e : QEntry) (ad : Addressing) (size : Nat) (write : Bool) (m : Quad) (f : MmFault) : Prop :=
  ∃ (k : Fin 64) (pick : Quad) (fs : List MmFault),
    m.getLsbD k = true ∧ elemCheck s e ad size write pick k = .fails fs ∧ f ∈ fs

/-- Each access is that of an element of `m` whose reference passes. -/
def OwnPass (s : State) (e : QEntry) (ad : Addressing) (size : Nat) (write : Bool) (m : Quad) (oks : List (Nat × Nat)) : Prop :=
  ∀ x ∈ oks, ∃ k : Fin 64, m.getLsbD k = true ∧ x.1 = k.val ∧ ∃ pick, elemCheck s e ad size write pick k = .ok x.2

section
variable {s : State} {e : QEntry} {ad : Addressing} {size : Nat} {write : Bool} {m : Quad}

/-- What the checks find to pass is of elements whose own reference passes. -/
theorem gatherRefs_ownPass : OwnPass s e ad size write m (gatherRefs s e s.vp ad size write (elemsOf m)).oks := by
  intro x hx
  obtain ⟨k, hk, pick, hxk, hok⟩ := (gatherRefs_mem s e ad size write (elemsOf m)).1 x hx
  exact ⟨k, (mem_elemsOf m k).mp hk, hxk, pick, hok⟩

theorem OwnPass.filter {oks : List (Nat × Nat)} (h : OwnPass s e ad size write m oks) (f : Nat × Nat → Bool) :
    OwnPass s e ad size write m (oks.filter f) := fun x hx => h x (List.mem_of_mem_filter hx)

/-- Where some reference meets an exception, one of those that apply is reported, and nothing is refused (R409). -/
theorem gatherRefs_meets (h : MeetsException s e ad size write m) (n : Nat) :
    let refs := gatherRefs s e s.vp ad size write (elemsOf m)
    refs.refusal = none ∧ ∃ f, pickFault n refs.faults = some f ∧ Reportable s e ad size write m f := by
  intro refs
  obtain ⟨hno, k, hk, hfails⟩ := h
  obtain ⟨-, hfaults, hrefusals⟩ := gatherRefs_mem s e ad size write (elemsOf m)
  constructor
  · cases hr : refs.refusal with
    | none => rfl
    | some r =>
      obtain ⟨j, hj, pick, hrefused⟩ := hrefusals r hr
      exact absurd hrefused (hno j ((mem_elemsOf m j).mp hj) pick r)
  · have hne : refs.faults ≠ [] := gatherRefs_fails s e ad size write (elemsOf m) k ((mem_elemsOf m k).mpr hk) fun pick => by
      obtain ⟨fs, hfs⟩ := hfails pick
      exact ⟨fs, hfs, checkRef_fails_ne _ _ _ _ _ _ _ hfs⟩
    obtain ⟨f, hf, hpick⟩ := pickFault_mem n refs.faults hne
    obtain ⟨j, hj, pick, fs, hfs, hmem⟩ := hfaults f hf
    exact ⟨f, hpick, j, pick, fs, (mem_elemsOf m j).mp hj, hfs, hmem⟩

/-- Where no passing reference lies over the operands, no access does (R224). -/
theorem OwnPass.overOperands {oks : List (Nat × Nat)} (h : OwnPass s e ad size write m oks)
    (hguards : ∀ k : Fin 64, m.getLsbD k = true → ∀ pick pa, elemCheck s e ad size write pick k = .ok pa →
      ∀ g ∈ e.guards, g < pa ∨ pa + size ≤ g) : overOperands size e oks = false := by
  refine List.any_eq_false.mpr fun x hx => ?_
  obtain ⟨k, hk, -, pick, hok⟩ := h x hx
  rw [Bool.not_eq_true, List.any_eq_false]
  intro g hg
  rcases hguards k hk pick x.2 hok g hg with hlt | hle
  · simp [hlt]
  · simp [hle]

end

/-- A load of which some reference meets an exception makes no access (R416). -/
theorem moveLoad_meets {s : State} {e : QEntry} {sz : ElemSize} {ad : Addressing} {m : Quad}
    (h : MeetsException s e ad sz.bytes false m) (hck : e.checked = none) (part : Option Nat) :
    ∃ f rows, moveLoad sz ad ⟨s.vp, {}⟩ e m part s = .failed f (loadTb s rows) e ∧
      Reportable s e ad sz.bytes false m f := by
  obtain ⟨hrefusal, f, hpick, hf⟩ := gatherRefs_meets h e.draw
  refine ⟨f, (gatherRefs s e s.vp ad sz.bytes false (elemsOf m)).rows, ?_, hf⟩
  simp only [moveLoad, moveRefs, hck, hrefusal, hpick]

/-- A store of which some reference meets an exception has written some elements whose own reference passes (R416). -/
theorem moveStore_meets {s : State} {e : QEntry} {sz : ElemSize} {ad : Addressing} {m : Quad}
    (h : MeetsException s e ad sz.bytes true m)
    (hguards : ∀ k : Fin 64, m.getLsbD k = true → ∀ pick pa, elemCheck s e ad sz.bytes true pick k = .ok pa →
      ∀ g ∈ e.guards, g < pa ∨ pa + sz.bytes ≤ g) (hck : e.checked = none) (part : Option Nat) :
    ∃ f rows early, OwnPass s e ad sz.bytes true m early ∧ Reportable s e ad sz.bytes true m f ∧
      moveStore sz ad ⟨s.vp, {}⟩ e m part s =
        .failed f (storeElems sz ad e s.vp none early (loadTb s rows)) (markEarly s.cfg sz ad e s.vp early) := by
  obtain ⟨hrefusal, f, hpick, hf⟩ := gatherRefs_meets h e.draw
  have hover := gatherRefs_ownPass.overOperands hguards
  refine ⟨f, (gatherRefs s e s.vp ad sz.bytes true (elemsOf m)).rows,
    partlyStored e.draw (gatherRefs s e s.vp ad sz.bytes true (elemsOf m)).oks, gatherRefs_ownPass.filter _, hf, ?_⟩
  simp only [moveStore, moveRefs, hck, hrefusal, hover, hpick, Bool.false_eq_true, if_false]

/-- The check at issue of references of which some meets an exception fails with one that applies (R412). -/
theorem examine_meets {s : State} {e : QEntry} {sz : ElemSize} {ad : Addressing} {write : Bool}
    (h : MeetsException s e ad sz.bytes write (View.openElems ⟨s.vp, {}⟩ e))
    (hguards : write = true → ∀ k : Fin 64, (View.openElems ⟨s.vp, {}⟩ e).getLsbD k = true → ∀ pick pa,
      elemCheck s e ad sz.bytes write pick k = .ok pa → ∀ g ∈ e.guards, g < pa ∨ pa + sz.bytes ≤ g) :
    ∃ f rows, examine sz ad write ⟨s.vp, {}⟩ e s = .failed f (loadTb s rows) e ∧
      Reportable s e ad sz.bytes write (View.openElems ⟨s.vp, {}⟩ e) f := by
  obtain ⟨hrefusal, f, hpick, hf⟩ := gatherRefs_meets h e.draw
  have hover : (write && overOperands sz.bytes e
      (gatherRefs s e s.vp ad sz.bytes write (elemsOf (View.openElems ⟨s.vp, {}⟩ e))).oks) = false := by
    cases write with
    | false => rfl
    | true => exact gatherRefs_ownPass.overOperands (hguards rfl)
  refine ⟨f, (gatherRefs s e s.vp ad sz.bytes write (elemsOf (View.openElems ⟨s.vp, {}⟩ e))).rows, ?_, hf⟩
  simp only [examine, hrefusal, hover, hpick, Bool.false_eq_true, if_false]

/-! ### What a store has written -/

theorem mem_cellsLE {a n v : Nat} {c : Host.Cell} (h : c ∈ cellsLE a n v) : a ≤ c.1 ∧ c.1 < a + n := by
  induction n generalizing a v with
  | zero => cases h
  | succ n ih =>
    rcases List.mem_cons.mp h with rfl | h
    · dsimp only; omega
    · have := ih h; omega

section
variable {s : State} {e : QEntry} {sz : ElemSize} {ad : Addressing} {write : Bool} {m : Quad} {oks : List (Nat × Nat)}
  (h : OwnPass s e ad sz.bytes write m oks)
include h

/-- The bytes that some accesses store lie in their locations. -/
theorem OwnPass.mem_stored (c : Config) (p : Vp) {x : Host.Cell}
    (hx : x ∈ (oks.flatMap (storeUnits c sz ad e p oks none)).flatten) : ∃ y ∈ oks, y.2 ≤ x.1 ∧ x.1 < y.2 + sz.bytes := by
  obtain ⟨u, hu, hxu⟩ := List.mem_flatten.mp hx
  obtain ⟨y, hy, huy⟩ := List.mem_flatMap.mp hu
  obtain ⟨k, -, hyk, -⟩ := h y hy
  have hcell : x ∈ (storeUnits c sz ad e p oks none (k.val, y.2)).flatten := by
    rw [← hyk]
    exact List.mem_flatten.mpr ⟨u, huy, hxu⟩
  rw [flatten_storeUnits] at hcell
  exact ⟨y, hy, mem_cellsLE (List.mem_of_mem_filter hcell)⟩

/-- Storing some accesses leaves alone every byte outside their locations. -/
theorem OwnPass.read_stored (c : Config) (p : Vp) (mem : Memory) {a : Nat}
    (ha : ∀ y ∈ oks, a < y.2 ∨ y.2 + sz.bytes ≤ a) :
    (mem.writeCells (oks.flatMap (storeUnits c sz ad e p oks none)).flatten).read a = mem.read a := by
  refine Memory.read_writeCells_other _ mem a fun hmem => ?_
  obtain ⟨x, hx, rfl⟩ := List.mem_map.mp hmem
  obtain ⟨y, hy, hle, hlt⟩ := h.mem_stored c p hx
  have := ha y hy
  omega

end

end Sys2Proof.Machine
end

section
/-! Suspension by the asynchronous method (R413, R416). -/

namespace Sys2Proof.Machine

/-! ### The references of what has been sent -/

/-- An instruction checks its references as the spec has it at issue, on any machine that walks and holds its elements alike. -/
theorem elemCheck_congr {s t : State} {e e' : QEntry} (hw : SameWalk s t) (hv : t.vp.v = s.vp.v) (hmode : e'.mode = e.mode)
    (htb : e'.tb = e.tb) (hbase : e'.base = e.base) (hscalar : e'.scalar = e.scalar) (hcntrl : e'.cntrl = e.cntrl)
    (ad : Addressing) (size : Nat) (write : Bool) (pick : Quad) (k : Fin 64) :
    elemCheck t e' ad size write pick k = elemCheck s e ad size write pick k := by
  have hva : elemAddress ad e' t.vp k = elemAddress ad e s.vp k := by
    cases ad <;> simp only [elemAddress, Vp.elem, hbase, hscalar, hcntrl, hv]
  have hrow (va : Long) : vectorRow s e' pick va = vectorRow s e pick va := by
    simp only [vectorRow, staleRows, htb]
  rw [elemCheck, elemCheck, hva, hw.checkRef, hw.vectorRow, hrow, hmode]

/-! ### The suspended instruction -/

theorem setBit_true (x : Long) (n : Nat) : setBit x n true = x ||| (1#32 <<< n) := if_pos rfl

/-- A suspended instruction: its exception, and nothing of it accessed since (R413, R416). -/
def suspendedEntry (e : QEntry) (f : MmFault) (s : State) : QEntry :=
  { e with fault := some f, phase := .suspended, draw := s.draws, reload := 0, spoil := allElements }

/-- What suspending the only instruction of the queue changes (R413, R416). -/
theorem suspend_single (w : View) {e e₀ : QEntry} (f : MmFault) {s : State} (hq : s.vp.queue = [e₀]) (hpmf : s.vp.pmf = false) :
    suspend 0 w e f s = s.spend.setVp { s.vp with
      v := (spoilDest w (suspendedEntry e f s) s.vp).v
      vpsr := s.vp.vpsr ||| 0x60
      pendingMm := some f
      queue := [suspendedEntry e f s] } := by
  have hbits : setBit (setBit s.vp.vpsr 6 true) 5 true = s.vp.vpsr ||| 0x60 := by
    rw [setBit_true, setBit_true, BitVec.or_assoc]
    rfl
  have hspoil := spoilDest_frame w (suspendedEntry e f s) s.vp
  have hqueue : (spoilDest w (suspendedEntry e f s) s.vp).queue = [e₀] := by rw [hspoil]; exact hq
  have hpmf' : (spoilDest w (suspendedEntry e f s) s.vp).pmf = false := by rw [hspoil]; exact hpmf
  have hvpsr : (spoilDest w (suspendedEntry e f s) s.vp).vpsr = s.vp.vpsr := by rw [hspoil]
  have hsuspend : suspend 0 w e f s = s.spend.setVp { spoilDest w (suspendedEntry e f s) s.vp with
      vpsr := setBit (setBit (spoilDest w (suspendedEntry e f s) s.vp).vpsr 6 true) 5 true
      pendingMm := if (spoilDest w (suspendedEntry e f s) s.vp).pmf then (spoilDest w (suspendedEntry e f s) s.vp).pendingMm
        else some f
      queue := (spoilDest w (suspendedEntry e f s) s.vp).queue.set 0 (suspendedEntry e f s) } := rfl
  simp only [hsuspend, hqueue, hpmf', hvpsr, hbits, List.set_cons_zero, Bool.false_eq_true, if_false]
  generalize spoilDest w (suspendedEntry e f s) s.vp = p at hspoil ⊢
  rw [hspoil]

/-- Where the only pending instruction is suspended the vector processor is not busy (R44, R413). -/
theorem busy_suspended {s : State} {e : QEntry} (hq : s.vp.queue = [e]) (hs : e.suspended = true) : busy s = false := by
  simp [busy, entryViews, hq, mayRun, hs]

/-- The machine behind an issue that has suspended its instruction: the vector processor's flags, its queue and registers, and
what a store has written. -/
structure Suspends (s : State) (e : QEntry) (f : MmFault) (v : Vector (Vector Quad 64) 16) (cells : List Host.Cell)
    (t : State) : Prop where
  cpu : t.cpu = s.cpu
  mem : t.mem = s.mem.writeCells cells
  vpsr : t.vp.vpsr = s.vp.vpsr ||| 0x60
  pending : t.vp.pendingMm = some f
  queue : t.vp.queue = [e]
  idle : busy t = false
  v : t.vp.v = v
  others : t.vp.vmr = s.vp.vmr ∧ t.vp.vlr = s.vp.vlr ∧ t.vp.vcr = s.vp.vcr ∧ t.vp.vaer = s.vp.vaer

/-- Suspending the only instruction of the queue, after what it has moved, and making that visible. -/
theorem suspends_flushed (w : View) {e e₀ : QEntry} (f : MmFault) {s s' : State} (hm : OnlyMoves s s') (hq : s.vp.queue = [e₀])
    (hpmf : s.vp.pmf = false) :
    Suspends s (suspendedEntry e f s') f (spoilDest w (suspendedEntry e f s') s'.vp).v s'.vp.vbuf.flatten
      (suspend 0 w e f s').flushVector := by
  have hq' : s'.vp.queue = [e₀] := by rw [hm]; exact hq
  have hpmf' : s'.vp.pmf = false := by rw [hm]; exact hpmf
  rw [suspend_single w f hq' hpmf']
  have hsusp : (suspendedEntry e f s').suspended = true := rfl
  generalize suspendedEntry e f s' = e' at *
  refine ⟨?_, ?_, ?_, rfl, rfl, busy_suspended rfl hsusp, rfl, ?_⟩
  · rw [hm]; rfl
  · rw [hm]; rfl
  · rw [hm]; rfl
  · rw [hm]; exact ⟨rfl, rfl, rfl, rfl⟩

/-! ### What becomes of the destination and of what is stored -/

/-- A load's exception leaves free values in the active elements of its destination, and nowhere else (R416). -/
theorem elem_spoilDest (w : View) (e : QEntry) (p : Vp) {r : BitVec 4} (k : Fin 64)
    (h : r ≠ fieldC e.cntrl ∨ e.isActive w.p.vmr k = false) : (spoilDest w e p).elem r k = p.elem r k := by
  unfold spoilDest
  split
  · split
    · rfl
    · by_cases hr : r = fieldC e.cntrl
      · subst hr
        rw [Vp.elem_setReg_same, h.resolve_left (not_not.mpr rfl)]
        rfl
      · exact Vp.elem_setReg_other p _ r _ k hr
  · rfl

/-- A store has no destination that an exception leaves free. -/
theorem spoilDest_store {e : QEntry} {sz : ElemSize} {ad : Addressing} (hop : e.op = .store sz ad) (w : View) (p : Vp) :
    spoilDest w e p = p := by
  rw [spoilDest, hop]

/-- What an exception leaves stored of a store is kept with it: the places (R193, R357). -/
theorem mem_early_markEarly (c : Config) (sz : ElemSize) (ad : Addressing) {e : QEntry} (he : e.early = []) (p : Vp)
    (oks : List (Nat × Nat)) (q : Part) :
    q ∈ (markEarly c sz ad e p oks).early ↔ ∃ x ∈ oks, q = ⟨x.1, 0, sz.bytes, x.2, 0⟩ := by
  simp only [markEarly, he, List.append_nil, partsOf, span, List.mem_map, Nat.add_zero, eq_comm (a := q)]
  rfl

/-- An element that an exception leaves stored depends on its source and, with masks, on its mask bit (R193). -/
theorem tainted_markEarly (c : Config) (sz : ElemSize) (ad : Addressing) {e : QEntry} {p : Vp} {oks : List (Nat × Nat)}
    {x : Nat × Nat} (hx : x ∈ oks) (k : Fin 64) (hk : x.1 = k.val)
    (h : p.tainted (fieldC e.cntrl) k = true ∨ (moe e.cntrl = true ∧ p.taint.vmr.getLsbD k = true)) :
    (markEarly c sz ad e p oks).tainted.getLsbD k = true := by
  have hdepends : memoryTainted ad true e p x.1 x.2 sz.bytes = true := by
    simp only [memoryTainted, hk, Bool.true_and, Bool.or_eq_true, Bool.and_eq_true]
    rcases h with h | h
    · exact .inl (.inr h)
    · exact .inl (.inl (.inl h))
  have haccess : (taintedAccesses ad true sz.bytes e p oks).getLsbD k = true := by
    rw [taintedAccesses, accessMask, getLsbD_maskOf, decide_eq_true k.isLt, Bool.true_and, List.any_eq_true]
    exact ⟨x, List.mem_filter.mpr ⟨hx, hdepends⟩, decide_eq_true hk⟩
  rw [markEarly, BitVec.getLsbD_or, haccess, Bool.or_true]

/-! ### Issue -/

section
variable {op : VOp} {sz : ElemSize} {ad : Addressing} {sps : List Spec} {s : State} {o : Operands}

/-- The only instruction of the queue, as it has been sent by the asynchronous method. -/
abbrev uncheckedEntry (op : VOp) (o : Operands) (s : State) : QEntry := startedEntry op o s none

/-- The machine as it starts. -/
abbrev uncheckedState (op : VOp) (o : Operands) (s : State) : State := startedState (uncheckedEntry op o s) s.vp.tb o s

/-- What is open of what has been sent. -/
abbrev sentElems (op : VOp) (o : Operands) (s : State) : Quad := View.openElems ⟨s.vp, {}⟩ (sentEntry op o s)

theorem MeetsException.ne_zero {e : QEntry} {size : Nat} {write : Bool} {m : Quad} (h : MeetsException s e ad size write m) :
    m ≠ 0 := by
  obtain ⟨-, k, hk, -⟩ := h
  rintro rfl
  simp at hk

/-- ISSUE by the asynchronous method of a load of which some reference meets an exception: it is suspended, and has made no
access (R413, R416). -/
theorem issue_load_suspends (hruns : Runs (.load sz ad) sps o s) (hasync : s.cfg.isAsync = true)
    (h : MeetsException (uncheckedState (.load sz ad) o s) (uncheckedEntry (.load sz ad) o s) ad sz.bytes false
      (sentElems (.load sz ad) o s)) :
    ∃ f s', OnlyMoves (uncheckedState (.load sz ad) o s) s' ∧ s'.vp.vbuf = s.vp.vbuf ∧
      Reportable (uncheckedState (.load sz ad) o s) (uncheckedEntry (.load sz ad) o s) ad sz.bytes false
        (sentElems (.load sz ad) o s) f ∧
      issue (.load sz ad) sps s = .next (suspend 0 ⟨(uncheckedState (.load sz ad) o s).vp, {}⟩
        (uncheckedEntry (.load sz ad) o s) f s').flushVector := by
  obtain ⟨ho, hi, hq, ha, hl⟩ := hruns
  obtain ⟨f, rows, hmove, hf⟩ := moveLoad_meets h rfl none
  have hrun := runElems_load (s := uncheckedState (.load sz ad) o s) (e := uncheckedEntry (.load sz ad) o s) rfl
    (sentEntry_len _ o s hq.2.1 fun _ => hl) h.ne_zero rfl
  refine ⟨f, loadTb (uncheckedState (.load sz ad) o s) rows, loadTb_onlyMoves _ _, by rw [loadTb_eq]; rfl, hf, ?_⟩
  rw [(issue_move _ sps s o ho hi hq ha hl hasync).2 h.ne_zero]
  refine (congrArg (fun r => andThen r fun t => .next t.flushVector) (hrun.trans (congrArg (settleMove 0 _) hmove))).trans ?_
  rfl

/-- ISSUE by the asynchronous method of a store of which some reference meets an exception: it is suspended, and has written
some elements whose own reference passes (R413, R416). -/
theorem issue_store_suspends (hruns : Runs (.store sz ad) sps o s) (hasync : s.cfg.isAsync = true)
    (h : MeetsException (uncheckedState (.store sz ad) o s) (uncheckedEntry (.store sz ad) o s) ad sz.bytes true
      (sentElems (.store sz ad) o s))
    (hguards : ∀ k : Fin 64, (sentElems (.store sz ad) o s).getLsbD k = true → ∀ pick pa,
      elemCheck (uncheckedState (.store sz ad) o s) (uncheckedEntry (.store sz ad) o s) ad sz.bytes true pick k = .ok pa →
      ∀ g ∈ o.guards, g < pa ∨ pa + sz.bytes ≤ g) :
    ∃ f s' early, OnlyMoves (uncheckedState (.store sz ad) o s) s' ∧
      OwnPass (uncheckedState (.store sz ad) o s) (uncheckedEntry (.store sz ad) o s) ad sz.bytes true
        (sentElems (.store sz ad) o s) early ∧
      s'.vp.vbuf = s.vp.vbuf ++ early.flatMap
        (storeUnits o.state.cfg sz ad (uncheckedEntry (.store sz ad) o s) (uncheckedState (.store sz ad) o s).vp early none) ∧
      Reportable (uncheckedState (.store sz ad) o s) (uncheckedEntry (.store sz ad) o s) ad sz.bytes true
        (sentElems (.store sz ad) o s) f ∧
      issue (.store sz ad) sps s = .next (suspend 0 ⟨(uncheckedState (.store sz ad) o s).vp, {}⟩
        (markEarly o.state.cfg sz ad (uncheckedEntry (.store sz ad) o s) (uncheckedState (.store sz ad) o s).vp early)
        f s').flushVector := by
  obtain ⟨ho, hi, hq, ha, hl⟩ := hruns
  obtain ⟨f, rows, early, hearly, hf, hmove⟩ := moveStore_meets h hguards rfl none
  have hrun := runElems_store (s := uncheckedState (.store sz ad) o s) (e := uncheckedEntry (.store sz ad) o s) rfl
    (sentEntry_len _ o s hq.2.1 fun _ => hl) h.ne_zero rfl
  refine ⟨f, storeElems sz ad (uncheckedEntry (.store sz ad) o s) (uncheckedState (.store sz ad) o s).vp none early
    (loadTb (uncheckedState (.store sz ad) o s) rows), early, storeElems_onlyMoves _ _ _ _ _ _ _ _ (loadTb_onlyMoves _ _),
    hearly, by rw [loadTb_eq]; rfl, hf, ?_⟩
  rw [(issue_move _ sps s o ho hi hq ha hl hasync).2 h.ne_zero]
  refine (congrArg (fun r => andThen r fun t => .next t.flushVector) (hrun.trans (congrArg (settleMove 0 _) hmove))).trans ?_
  rfl

end

/-! ### The statement's terms -/

section
variable {op : VOp} {ad : Addressing} {size : Nat} {write : Bool} {s t : State} {o : Operands} {e : QEntry} {m : Quad}
  (hcheck : ∀ pick k, elemCheck t e ad size write pick k = elemCheck s (entryOf op o s) ad size write pick k)
  (hm : ∀ k : Fin 64, m.getLsbD k = true ↔ Active s o k)
include hcheck hm

theorem meetsException_of_active (hno : ∀ k pick r, Active s o k → elemCheck s (entryOf op o s) ad size write pick k ≠ .refused r)
    (hfails : ∃ k, Active s o k ∧ ∀ pick, ∃ fs, elemCheck s (entryOf op o s) ad size write pick k = .fails fs) :
    MeetsException t e ad size write m := by
  simp only [MeetsException, hcheck, hm]
  exact ⟨fun k hk pick r => hno k pick r hk, hfails⟩

theorem Reportable.active {f : MmFault} (h : Reportable t e ad size write m f) :
    ∃ k pick fs, Active s o k ∧ elemCheck s (entryOf op o s) ad size write pick k = .fails fs ∧ f ∈ fs := by
  simpa only [Reportable, hcheck, hm] using h

/-- A byte outside the locations of the active elements whose reference passes is outside those of such accesses. -/
theorem OwnPass.apart {oks : List (Nat × Nat)} (h : OwnPass t e ad size write m oks) {a : Nat}
    (ha : ∀ k pick pa, Active s o k → elemCheck s (entryOf op o s) ad size write pick k = .ok pa → a < pa ∨ pa + size ≤ a) :
    ∀ x ∈ oks, a < x.2 ∨ x.2 + size ≤ a := by
  intro x hx
  obtain ⟨k, hk, -, pick, hok⟩ := h x hx
  exact ha k pick x.2 ((hm k).mp hk) ((hcheck pick k).symm.trans hok)

end

/-- An element is active exactly where what is sent has it as active (R181). -/
theorem isActive_sentEntry (op : VOp) (s : State) (o : Operands) (k : Fin 64) (hq : s.vp.queue = []) (hu : op.usesLength = true) :
    (sentEntry op o s).isActive s.vp.vmr k = true ↔ Active s o k := by
  have hdone : (sentEntry op o s).done.getLsbD k = false := BitVec.getLsbD_zero
  have hleft : (sentEntry op o s).left.getLsbD k = false := BitVec.getLsbD_zero
  rw [active_iff op s o k hq hu, getLsbD_openElems, hdone, hleft, decide_eq_true k.isLt, sees_none rfl]
  rfl

/-- Settles O24: the instruction is suspended by `issue_load_suspends` or `issue_store_suspends`; `suspends_flushed` gives the
flags, `elem_spoilDest` what becomes of a load's destination, and `markEarly` what is kept of what a store has written. -/
theorem asynchronousException : Obligations.AsynchronousException := by
  intro c b x i op sps s o hmem hruns hasync sz ad write hop e check hsrc hno hguards hfails
  obtain ⟨hexec, hu⟩ := exec_lengthForm hmem s
  have hs := evalOperands_frame _ _ _ _ _ hruns.1
  obtain ⟨-, hqueue, hvbuf, -⟩ := hruns.2.2.1
  have hpmf : (uncheckedState op o s).vp.pmf = false := hruns.2.1.2.2.1
  have hmemory : (uncheckedState op o s).mem = s.mem := hs.fields.2.2.1
  have hcntrl : (uncheckedEntry op o s).cntrl = controlWord o := entryOf_cntrl hu o s
  have hlen : (uncheckedEntry op o s).len = s.vp.vlr := (entryOf_len hu o s).trans (currentLength_empty _ hqueue)
  have hactive (k : Fin 64) : (sentElems op o s).getLsbD k = true ↔ Active s o k := openElems_sentEntry hu o hqueue k
  have hwalk : SameWalk s (uncheckedState op o s) := ⟨hs.fields.1, hs.sameWalk.2.1, hs.sameWalk.2.2.1, rfl, rfl⟩
  have hcheck (pick : Quad) (k : Fin 64) :
      elemCheck (uncheckedState op o s) (uncheckedEntry op o s) ad sz.bytes write pick k =
        elemCheck s (entryOf op o s) ad sz.bytes write pick k := elemCheck_congr hwalk rfl rfl rfl rfl rfl rfl _ _ _ _ _
  have hmeets := meetsException_of_active hcheck hactive hno hfails
  cases write with
  | false =>
    subst hop
    obtain ⟨f, s', hmoves, hnovbuf, hf, hissue⟩ := issue_load_suspends hruns hasync hmeets
    have hsusp := suspends_flushed ⟨(uncheckedState (.load sz ad) o s).vp, {}⟩ (e := uncheckedEntry (.load sz ad) o s) f
      hmoves rfl hpmf
    rw [hnovbuf, hvbuf] at hsusp
    obtain ⟨hvmr, hvlr, hvcr, hvaer⟩ := hsusp.others
    refine ⟨_, f, _, hexec.trans hissue, hsusp.cpu, hsusp.vpsr, hsusp.pending, hsusp.queue, rfl, rfl, rfl, hsusp.idle,
      hf.active hcheck hactive, hvmr, hvlr, hvcr, hvaer, fun _ => ⟨hsusp.mem.trans hmemory, fun r k hr => ?_⟩,
      fun h => Bool.noConfusion h⟩
    have hkeep := elem_spoilDest ⟨(uncheckedState (.load sz ad) o s).vp, {}⟩
      (suspendedEntry (uncheckedEntry (.load sz ad) o s) f s') s'.vp k
      (hr.imp (by rw [← hcntrl]; exact id) fun hk => Bool.eq_false_iff.mpr (mt (isActive_sentEntry _ s o k hqueue hu).mp hk))
    rw [Vp.elem, hsusp.v, ← Vp.elem, hkeep, hmoves]
    rfl
  | true =>
    subst hop
    obtain ⟨f, s', early, hmoves, hown, hwritten, hf, hissue⟩ := issue_store_suspends hruns hasync hmeets
      fun k hk pick pa hok g hg => hguards rfl k pick pa ((hactive k).mp hk) ((hcheck pick k).symm.trans hok) g hg
    have hsusp := suspends_flushed ⟨(uncheckedState (.store sz ad) o s).vp, {}⟩
      (e := markEarly o.state.cfg sz ad (uncheckedEntry (.store sz ad) o s) (uncheckedState (.store sz ad) o s).vp early) f
      hmoves rfl hpmf
    rw [hwritten, hvbuf, List.nil_append] at hsusp
    obtain ⟨hvmr, hvlr, hvcr, hvaer⟩ := hsusp.others
    have hmem' := hsusp.mem.trans (congrArg (fun m : Memory => m.writeCells _) hmemory)
    have hearly := mem_early_markEarly o.state.cfg sz ad (e := uncheckedEntry (.store sz ad) o s) rfl
      (uncheckedState (.store sz ad) o s).vp early
    refine ⟨_, f, _, hexec.trans hissue, hsusp.cpu, hsusp.vpsr, hsusp.pending, hsusp.queue, rfl, rfl, rfl, hsusp.idle,
      hf.active hcheck hactive, hvmr, hvlr, hvcr, hvaer, fun h => Bool.noConfusion h,
      fun _ => ⟨?_, fun a ha => ?_, fun a ha => ?_, fun q hq k hk ht => ?_⟩⟩
    · rw [hsusp.v, spoilDest_store rfl, hmoves]
      rfl
    · rw [hmem']
      exact hown.read_stored _ _ _ (hown.apart hcheck hactive ha)
    · by_contra hnone
      refine ha ((congrArg (fun m : Memory => m.read a) hmem').trans (hown.read_stored _ _ _ fun y hy => ?_))
      by_contra hover
      exact hnone ⟨_, (hearly _).mpr ⟨y, hy, rfl⟩, by dsimp only; omega⟩
    · obtain ⟨y, hy, rfl⟩ := (hearly q).mp hq
      rw [← hcntrl] at ht
      exact tainted_markEarly o.state.cfg sz ad hy k hk ht

end Sys2Proof.Machine
end

section
/-! An exception that the synchronous method takes on the instruction itself (R412, R416). -/

namespace Sys2Proof.Machine

/-! ### The load that is backed up -/

/-- An instruction of no length whose destination is to depend on what it depended on leaves its dependences alone. -/
theorem taintDest_old {e : QEntry} (hlen : e.len = 0) (hleft : e.left = 0) (p : Vp) : e.taintDest p e.tainted = e.tainted := by
  refine BitVec.eq_of_getLsbD_eq fun i hi => ?_
  have hinactive : e.isActive p.vmr i = false := by simp [QEntry.isActive, active, hlen]
  rw [QEntry.taintDest, getLsbD_maskOf, hlen, hleft, hinactive]
  simp [hi]

section
variable {w : View} {e : QEntry} {ad : Addressing} {p : Vp} (hcopy : e.copy = none)
include hcopy

/-- A load that is backed up changes values only (R412). -/
theorem settle_backedUp (hleft : e.left = 0) (ht : p.taint = w.p.taint) :
    (backedUp w e ad).settle p = { p with v := ((backedUp w e ad).settle p).v } := by
  have htaint : (backedUp w e ad).taintDest p p.taint.v[(fieldC e.cntrl).toNat] = p.taint.v[(fieldC e.cntrl).toNat] := by
    rw [ht]
    exact taintDest_old (e := backedUp w e ad) rfl hleft p
  have hsettle : (backedUp w e ad).settle p = (backedUp w e ad).settleReg p p := settle_none (e := backedUp w e ad) hcopy p
  rw [hsettle]
  have hset : p.taint.v.set (fieldC e.cntrl).toNat
      ((backedUp w e ad).taintDest p p.taint.v[(fieldC e.cntrl).toNat]) = p.taint.v := by
    rw [htaint, Vector.set_getElem_self]
  exact congrArg (fun v => { (backedUp w e ad).settleReg p p with taint := { p.taint with v := v } }) hset

/-- It leaves alone what its exception does not touch (R416). -/
theorem elem_settle_backedUp {sz : ElemSize} (hop : e.op = .load sz ad)
    (hsrc : ad = .indexed → fieldB e.cntrl ≠ fieldC e.cntrl) {r : BitVec 4} {k : Fin 64}
    (hr : r ≠ fieldC e.cntrl ∨ e.isActive w.p.vmr k = false) :
    ((backedUp w e ad).settle p).elem r k = p.elem r k := by
  have hsource : e.sameRegister = false ∧ (backedUp w e ad).sameRegister = false := by
    rw [QEntry.sameRegister, hop]
    cases ad with
    | strided => exact ⟨rfl, rfl⟩
    | indexed => exact ⟨decide_eq_false (hsrc rfl), decide_eq_false (hsrc rfl)⟩
  obtain ⟨hload, hsame⟩ := hsource
  by_cases hreg : r = fieldC e.cntrl
  · subst hreg
    have hinactive : e.isActive w.p.vmr k = false := hr.resolve_left (not_not.mpr rfl)
    have hdone : (backedUp w e ad).done = maskOf fun i => e.isActive w.p.vmr i := 
      if_neg (by rw [hload]; exact Bool.false_ne_true)
    have hwritten : (backedUp w e ad).written.getLsbD k = false := by
      rw [written_eq _ hsame, hdone, getLsbD_maskOf, hinactive, Bool.and_false]
    rw [settle_none (e := backedUp w e ad) hcopy]
    refine (elem_settleOn (backedUp w e ad) p p rfl k).trans ?_
    rw [hwritten]
    rfl
  · exact elem_settle_other (backedUp w e ad) p r k hreg

/-- What is left of a load that an exception backs up: free values in its destination (R412, R416). -/
theorem spoil_load (sz : ElemSize) (oks : List (Nat × Nat)) {s : State} (hleft : e.left = 0) (hq : s.vp.queue = [])
    (ht : s.vp.taint = w.p.taint) :
    spoil sz ad false w e oks s = s.setVp { s.vp with v := ((backedUp w e ad).settle s.vp).v } := by
  have hopen : View.openElems ⟨s.vp, {}⟩ (backedUp w e ad) = 0 := openElems_of_len_zero _ _ rfl
  have hretire : Vp.retire { s.vp with queue := s.vp.queue ++ [backedUp w e ad] } =
      { s.vp with v := ((backedUp w e ad).settle s.vp).v } := by
    rw [hq, List.nil_append, retire_single, if_pos hopen]
    generalize hv : ((backedUp w e ad).settle s.vp).v = v
    rw [settle_backedUp hcopy hleft ht, hv, ← hq]
  exact congrArg s.setVp hretire

/-! ### The store that is backed up -/

/-- What is left of a store that an exception backs up is what it has stored, and what depends on that (R193, R412). -/
theorem spoil_store (sz : ElemSize) (oks : List (Nat × Nat)) (hop : e.op = .store sz ad) {s : State} (hq : s.vp.queue = []) :
    ∃ early, (∀ x ∈ early, x ∈ oks) ∧
      let s' := storeElems sz ad e w.p none early s
      let e' := backedUpStore s.cfg sz ad w e early
      spoil sz ad true w e oks s = s'.setVp { s'.vp with taint := { s'.vp.taint with
        mem := s'.vp.taint.mem || e'.movedTainted || e'.maskTainted s'.vp
        stored := e'.taintedPlaces ++ s'.vp.taint.stored } } := by
  refine ⟨(partlyStored e.draw oks).filter fun x => (runnable s s.vp.queue.length w e).getLsbD x.1,
    fun x hx => List.mem_of_mem_filter (List.mem_of_mem_filter hx), ?_⟩
  generalize hearly : (partlyStored e.draw oks).filter (fun x => (runnable s s.vp.queue.length w e).getLsbD x.1) = early
  intro s' e'
  have hq' : s'.vp.queue = [] := hq
  have hsettle : e'.settle s'.vp = { s'.vp with taint := { s'.vp.taint with
      mem := s'.vp.taint.mem || e'.movedTainted || e'.maskTainted s'.vp
      stored := e'.taintedPlaces ++ s'.vp.taint.stored } } := by
    have hop' : e'.op = .store sz ad := hop
    rw [settle_none (e := e') hcopy, QEntry.settleOn, hop']
  have hretire : Vp.retire { s'.vp with queue := s'.vp.queue ++ [e'] } = e'.settle s'.vp := by
    rw [hq', List.nil_append, retire_single, if_pos (openElems_of_len_zero _ e' rfl), hsettle, ← hq']
  rw [← hsettle, ← hretire]
  subst hearly
  rfl

omit hcopy

/-- Where nothing carries an unreported exception no access does (R193). -/
theorem taintedAccesses_clean (write : Bool) (size : Nat) (oks : List (Nat × Nat)) (h : p.taint = {}) :
    taintedAccesses ad write size e p oks = 0 := by
  have hnone (x : Nat × Nat) : memoryTainted ad write e p x.1 x.2 size = false := by
    cases ad <;> simp [memoryTainted, Vp.tainted, h]
  refine BitVec.eq_of_getLsbD_eq fun i _ => ?_
  simp [taintedAccesses, accessMask, getLsbD_maskOf, hnone]

/-- Then nothing comes to depend on one by a store that is backed up. -/
theorem backedUpStore_clean (c : Config) (sz : ElemSize) (early : List (Nat × Nat)) (he : e.tainted = 0)
    (hw : w.p.taint = {}) (hp : p.taint = {}) :
    let e' := backedUpStore c sz ad w e early
    e'.movedTainted = false ∧ e'.maskTainted p = false ∧ e'.taintedPlaces = [] := by
  intro e'
  have htainted : e'.tainted = 0 := by
    show e.tainted ||| taintedAccesses ad true sz.bytes e w.p early = 0
    rw [he, taintedAccesses_clean true _ _ hw]
    rfl
  refine ⟨?_, ?_, ?_⟩
  · rw [QEntry.movedTainted, htainted, decide_eq_false (not_not.mpr rfl), Bool.and_false]
  · have hmask : e'.below &&& p.taint.vmr = 0 := by rw [hp]; exact BitVec.and_zero
    rw [QEntry.maskTainted, decide_eq_false (not_not.mpr hmask), Bool.and_false]
  · refine List.flatMap_eq_nil_iff.mpr fun q _ => ?_
    rw [htainted]
    exact if_neg (by simp)

end

/-! ### The fault -/

/-- Undoing the operands of an instruction that has moved leaves the scalar processor as before it, and what it has moved. -/
theorem undone_frame {s s₀ t : State} (hs : RegistersOnly s s₀) (hsched : s.sched = []) (hm : OnlyMoves s₀ t)
    (v : Vector (Vector Quad 64) 16) (taint : Taint) :
    let u := undoOperands s (t.setVp { t.vp with v := v, taint := taint }).prompt
    u.cpu = s.cpu ∧ u.vp = { s.vp with v := v, tb := t.vp.tb, taint := taint, vbuf := [] } ∧
      u.mem = s.mem.writeCells t.vp.vbuf.flatten := by
  have hprompt : (t.setVp { t.vp with v := v, taint := taint }).prompt =
      (t.setVp { t.vp with v := v, taint := taint }).flushVector := by
    refine if_pos ?_
    rw [hm, hs]
    exact List.isEmpty_iff.mpr hsched
  rw [hprompt, hm, hs]
  exact ⟨rfl, rfl, rfl⟩

section
variable {s s₀ : State} {e : QEntry} {ad : Addressing} (hs : RegistersOnly s s₀) (hquiet : Quiet s) (hcopy : e.copy = none)
include hs hquiet hcopy

/-- The machine that the fault of a load finds: only what the load has left free differs, and the translation buffer. -/
theorem undone_load (sz : ElemSize) (oks : List (Nat × Nat)) (rows : List MapRow) (hleft : e.left = 0)
    (hop : e.op = .load sz ad) (hsrc : ad = .indexed → fieldB e.cntrl ≠ fieldC e.cntrl) :
    let u := undoOperands s (spoil sz ad false ⟨s₀.vp, {}⟩ e oks (loadTb s₀ rows)).prompt
    u.cpu = s.cpu ∧ u.vp = { s.vp with v := u.vp.v, tb := u.vp.tb } ∧ u.mem = s.mem ∧
      ∀ r (k : Fin 64), r ≠ fieldC e.cntrl ∨ e.isActive s.vp.vmr k = false → u.vp.elem r k = s.vp.elem r k := by
  obtain ⟨hsched, hqueue, hvbuf, -⟩ := hquiet
  have hvp : s₀.vp = s.vp := hs.fields.2.1
  obtain ⟨tb, htb⟩ : ∃ tb, (loadTb s₀ rows).vp = { s.vp with tb := tb } := ⟨_, by rw [loadTb_eq, ← hvp]; rfl⟩
  have hspoil := spoil_load (w := ⟨s₀.vp, {}⟩) (s := loadTb s₀ rows) (ad := ad) hcopy sz oks hleft (by rw [htb]; exact hqueue)
    (by rw [htb, hvp])
  have hkeep (r : BitVec 4) (k : Fin 64) := elem_settle_backedUp (w := ⟨s₀.vp, {}⟩) (p := (loadTb s₀ rows).vp) hcopy hop hsrc
    (r := r) (k := k)
  rw [hspoil]
  intro u
  obtain ⟨hcpu, hvp', hmem⟩ : u.cpu = _ ∧ u.vp = _ ∧ u.mem = _ := undone_frame hs hsched (loadTb_onlyMoves s₀ rows)
    ((backedUp ⟨s₀.vp, {}⟩ e ad).settle (loadTb s₀ rows).vp).v (loadTb s₀ rows).vp.taint
  rw [htb] at hmem hvp' hkeep
  refine ⟨hcpu, ?_, ?_, fun r k hr => ?_⟩
  · rw [hvp', ← hvbuf]
  · rw [hmem]
    exact congrArg (fun us => s.mem.writeCells (List.flatten us)) hvbuf
  · rw [Vp.elem, hvp']
    exact hkeep r k (by rw [hvp]; exact hr)

/-- The machine that the fault of a store finds: only what the store has stored differs, and what depends on that. -/
theorem undone_store (sz : ElemSize) (oks : List (Nat × Nat)) (rows : List MapRow) (ht : e.tainted = 0)
    (hop : e.op = .store sz ad) :
    let u := undoOperands s (spoil sz ad true ⟨s₀.vp, {}⟩ e oks (loadTb s₀ rows)).prompt
    ∃ early : List (Nat × Nat), (∀ x ∈ early, x ∈ oks) ∧ u.cpu = s.cpu ∧
      u.vp = { s.vp with
        tb := u.vp.tb, taint := { s.vp.taint with mem := u.vp.taint.mem, stored := u.vp.taint.stored } } ∧
      (s.vp.taint = {} → u.vp.taint = {}) ∧
      u.mem = s.mem.writeCells (early.flatMap (storeUnits (loadTb s₀ rows).cfg sz ad e s₀.vp early none)).flatten := by
  obtain ⟨hsched, hqueue, hvbuf, -⟩ := hquiet
  have hvp : s₀.vp = s.vp := hs.fields.2.1
  obtain ⟨tb, htb⟩ : ∃ tb, (loadTb s₀ rows).vp = { s.vp with tb := tb } := ⟨_, by rw [loadTb_eq, ← hvp]; rfl⟩
  obtain ⟨early, hearly, hspoil⟩ := spoil_store (w := ⟨s₀.vp, {}⟩) (s := loadTb s₀ rows) hcopy sz oks hop
    (by rw [htb]; exact hqueue)
  have hmoves := storeElems_onlyMoves sz ad e s₀.vp none early _ _ (loadTb_onlyMoves s₀ rows)
  have hstored : (storeElems sz ad e s₀.vp none early (loadTb s₀ rows)).vp = { s.vp with
      tb := tb, vbuf := early.flatMap (storeUnits (loadTb s₀ rows).cfg sz ad e s₀.vp early none) } := by
    simp only [storeElems, State.vectorWrite, htb, hvbuf, List.nil_append]
  have hundone := undone_frame hs hsched hmoves (storeElems sz ad e s₀.vp none early (loadTb s₀ rows)).vp.v
  have hclean (h : s.vp.taint = {}) := backedUpStore_clean (p := { s.vp with
      tb := tb, vbuf := early.flatMap (storeUnits (loadTb s₀ rows).cfg sz ad e s₀.vp early none) }) (ad := ad)
    (loadTb s₀ rows).cfg sz early ht (w := ⟨s₀.vp, {}⟩) (by rw [hvp]; exact h) h
  rw [hspoil]
  rw [hstored] at hundone ⊢
  intro u
  obtain ⟨hcpu, hvp', hmem⟩ : u.cpu = _ ∧ u.vp = _ ∧ u.mem = _ := hundone _
  refine ⟨early, hearly, hcpu, ?_, fun h => ?_, hmem⟩
  · rw [hvp', ← hvbuf]
  · obtain ⟨hmoved, hmask, hplaces⟩ := hclean h
    rw [hvp']
    dsimp only
    rw [hmoved, hmask, hplaces, h]
    rfl

end

section
variable {op : VOp} {sz : ElemSize} {ad : Addressing} {write : Bool} {sps : List Spec} {s : State} {o : Operands}

/-- ISSUE by the synchronous method of a memory instruction of which some reference meets an exception: the exception is taken
on the instruction, which is backed up (R412). -/
theorem issue_backs_up (hop : op.access = some (sz, ad, write)) (hruns : Runs op sps o s) (hsync : s.cfg.isAsync = false)
    (h : MeetsException o.state.spend (sentEntry op o s) ad sz.bytes write
      (View.openElems ⟨o.state.spend.vp, {}⟩ (sentEntry op o s)))
    (hguards : write = true → ∀ k : Fin 64, (View.openElems ⟨o.state.spend.vp, {}⟩ (sentEntry op o s)).getLsbD k = true →
      ∀ pick pa, elemCheck o.state.spend (sentEntry op o s) ad sz.bytes write pick k = .ok pa →
      ∀ g ∈ (sentEntry op o s).guards, g < pa ∨ pa + sz.bytes ≤ g) :
    ∃ f rows oks, Reportable o.state.spend (sentEntry op o s) ad sz.bytes write
        (View.openElems ⟨o.state.spend.vp, {}⟩ (sentEntry op o s)) f ∧
      OwnPass o.state.spend (sentEntry op o s) ad sz.bytes write
        (View.openElems ⟨o.state.spend.vp, {}⟩ (sentEntry op o s)) oks ∧
      issue op sps s = takeException (.mm f) (undoOperands s
        (spoil sz ad write ⟨o.state.spend.vp, {}⟩ (sentEntry op o s) oks (loadTb o.state.spend rows)).prompt) := by
  obtain ⟨f, rows, hexamine, hf⟩ := examine_meets h hguards
  have hq : o.state.spend.vp.queue = [] :=
    (hruns.2.2.1.registersOnly ((evalOperands_frame _ _ _ _ _ hruns.1).trans (spend_registersOnly _))).2.1
  exact ⟨f, rows, _, hf, gatherRefs_ownPass, (issue_checks hop hruns hsync).trans (checkAtIssue_failed hq hexamine _ _)⟩

end

/-- Settles O25: the fault is taken by `issue_backs_up`, and `undone_load` and `undone_store` say what the instruction leaves
behind it. -/
theorem synchronousException : Obligations.SynchronousException := by
  intro c b x i op sps s o hmem hruns hsync sz ad write hop e check hsrc hno hguards hfails
  obtain ⟨hexec, hu⟩ := exec_lengthForm hmem s
  have hs : RegistersOnly s o.state.spend := (evalOperands_frame _ _ _ _ _ hruns.1).trans (spend_registersOnly _)
  have hvp : o.state.spend.vp = s.vp := hs.fields.2.1
  obtain ⟨-, hqueue, -, -⟩ := hruns.2.2.1
  have hcntrl : (sentEntry op o s).cntrl = controlWord o := entryOf_cntrl hu o s
  have hactive (k : Fin 64) :
      (View.openElems ⟨o.state.spend.vp, {}⟩ (sentEntry op o s)).getLsbD k = true ↔ Active s o k := by
    rw [hvp]
    exact openElems_sentEntry hu o hqueue k
  have hcheck (pick : Quad) (k : Fin 64) :
      elemCheck o.state.spend (sentEntry op o s) ad sz.bytes write pick k =
        elemCheck s (entryOf op o s) ad sz.bytes write pick k :=
    elemCheck_congr hs.sameWalk (congrArg Vp.v hvp) rfl rfl rfl rfl rfl _ _ _ _ _
  have haccess : op.access = some (sz, ad, write) := by
    subst hop
    cases write <;> rfl
  have hsentGuards (hw : write = true) : (sentEntry op o s).guards = o.guards := by
    subst hop hw
    rfl
  obtain ⟨f, rows, oks, hf, hown, hissue⟩ := issue_backs_up haccess hruns hsync
    (meetsException_of_active hcheck hactive hno hfails)
    fun hw k hk pick pa hok g hg => hguards hw k pick pa ((hactive k).mp hk) ((hcheck pick k).symm.trans hok) g
      (by rw [← hsentGuards hw]; exact hg)
  refine ⟨_, f, hexec.trans hissue, ?_⟩
  cases write with
  | false =>
    obtain ⟨hcpu, hvp', hmem', hkeep⟩ := undone_load (e := sentEntry op o s) hs hruns.2.2.1 rfl sz oks rows rfl hop
      (by rw [hcntrl]; exact hsrc rfl)
    refine ⟨hcpu, hf.active hcheck hactive, ?_, fun _ => ⟨hmem', fun r k hr => ?_, ?_⟩, fun h => Bool.noConfusion h⟩
    · conv_lhs => rw [hvp']
      conv_rhs => rw [hvp']
    · exact hkeep r k (hr.imp (by rw [hcntrl]; exact id) fun hk =>
        Bool.eq_false_iff.mpr (mt (isActive_sentEntry op s o k hqueue hu).mp hk))
    · rw [hvp']
  | true =>
    obtain ⟨early, hearly, hcpu, hvp', hclean, hmem'⟩ := undone_store (e := sentEntry op o s) hs hruns.2.2.1 rfl sz oks rows
      rfl hop
    have hown' : OwnPass o.state.spend (sentEntry op o s) ad sz.bytes true _ early := fun x hx => hown x (hearly x hx)
    refine ⟨hcpu, hf.active hcheck hactive, ?_, fun h => Bool.noConfusion h, fun _ => ⟨?_, ?_, hclean, fun a ha => ?_⟩⟩
    · conv_lhs => rw [hvp']
      conv_rhs => rw [hvp']
    · rw [hvp']
    · conv_lhs => rw [hvp']
    · rw [hmem']
      exact hown'.read_stored _ _ _ (hown'.apart hcheck hactive ha)

end Sys2Proof.Machine
end

section
/-! Loads whose references pass (R211, R215 to R218). -/

namespace Sys2Proof.Machine

/-! ### The machine on which an instruction runs -/

section
variable {op : VOp} {sps : List Spec} {o : Operands} {s : State} (h : Runs op sps o s)
include h

theorem Runs.queue : s.vp.queue = [] := by
  obtain ⟨-, -, ⟨-, hqueue, -⟩, -⟩ := h
  exact hqueue

theorem Runs.vbuf : s.vp.vbuf = [] := by
  obtain ⟨-, -, ⟨-, -, hvbuf, -⟩, -⟩ := h
  exact hvbuf

/-- Evaluating the operands has left memory, for both processors, as it was (R134). -/
theorem Runs.memory : o.state.mem = s.mem ∧ o.state.cpu.wbuf = s.cpu.wbuf := by
  obtain ⟨hoperands, -⟩ := h
  obtain ⟨-, -, hmem, -, -, -, -, -, hwbuf, -⟩ := (evalOperands_frame _ _ _ _ _ hoperands).fields
  exact ⟨hmem, hwbuf⟩

theorem Runs.len_sentEntry : (sentEntry op o s).len.toNat ≤ 64 := by
  have hqueue := h.queue
  obtain ⟨-, -, -, -, hlen⟩ := h
  exact sentEntry_len op o s hqueue fun _ => hlen

/-- What is open of what is sent is what is active (R181). -/
theorem Runs.getLsbD_sentElems (hu : op.usesLength = true) (k : Fin 64) :
    (sentElems op o s).getLsbD k = true ↔ Active s o k := openElems_sentEntry hu o h.queue k

end

/-! ### How a load executes -/

/-- An entry that has gone on by loading the elements `m` with their values. -/
structure QEntry.Loaded (e e' : QEntry) (m : Quad) (value : Fin 64 → Quad) : Prop where
  progress : e.OnlyProgress e'
  done : e'.done = e.done ||| m
  res : ∀ k : Fin 64, m.getLsbD k = true → e'.res[k] = value k

/-- How far a retry has come is no matter of what is loaded. -/
theorem QEntry.Loaded.resume {e e' : QEntry} {m : Quad} {value : Fin 64 → Quad} (h : e.Loaded e' m value) (w : View) :
    e.Loaded (e'.resume w) m value where
  progress := resume_progress e e' w h.progress
  done := by rw [resume_frame]; exact h.done
  res := by rw [resume_frame]; exact h.res

/-- An entry has loaded no elements as it is. -/
theorem QEntry.Loaded.zero (e : QEntry) (value : Fin 64 → Quad) : e.Loaded e 0 value where
  progress := rfl
  done := BitVec.or_zero.symm
  res k hk := by simp at hk

/-- A load loads the elements whose references have passed, each with what is at its address. -/
theorem moveLoad_passed {sz : ElemSize} {ad : Addressing} {w : View} {e : QEntry} {m : Quad} {s : State} {pa : Fin 64 → Nat}
    (hpass : Passed (moveRefs s e w.p ad sz.bytes false m) m pa) (hsame : e.sameRegister = false) :
    ∃ rows e', moveLoad sz ad w e m none s = .ok (loadTb s rows) e' ∧
      e.Loaded e' m fun k => loadedValue sz (s.vectorRead (pa k) sz.bytes) (elemDraw e.draw k) := by
  obtain ⟨hoks, hfaults, hrefusal⟩ := hpass
  have hwhole : decide ((span s.cfg sz none).2 = sz.bytes) = true := decide_eq_true rfl
  unfold moveLoad
  simp only [hoks, hfaults, hrefusal, pickFault, hwhole, if_true, Option.isSome_some, List.filter_true]
  refine ⟨_, _, rfl, rfl, ?_, fun k hk => ?_⟩
  · simp only [markAccessed, accessMask_accessesOf]
  · simp only [loadResults, Fin.getElem_fin, Vector.getElem_ofFn, hsame, Bool.false_eq_true, if_false, Fin.eta,
      find?_accessesOf, if_pos hk, Option.getD_some]

/-- At the head of the queue it completes, and the registers are as its entry settles them. -/
theorem runElems_load_passed {sz : ElemSize} {ad : Addressing} {e : QEntry} {s : State} {pa : Fin 64 → Nat}
    (hq : s.vp.queue = [e]) (hl : e.len.toNat ≤ 64) (hop : e.op = .load sz ad) (hcp : e.copy = none)
    (hsame : e.sameRegister = false) (hopen : View.openElems ⟨s.vp, {}⟩ e ≠ 0)
    (hpass : Passed (moveRefs s e s.vp ad sz.bytes false (View.openElems ⟨s.vp, {}⟩ e)) (View.openElems ⟨s.vp, {}⟩ e) pa) :
    ∃ tb r, runElems 0 allElements none s = .next (s.setVp { r.settle { s.vp with tb := tb } with queue := [] }) ∧
      e.Loaded r (View.openElems ⟨s.vp, {}⟩ e) fun k =>
        loadedValue sz (s.vectorRead (pa k) sz.bytes) (elemDraw e.draw k) := by
  obtain ⟨rows, e', hmove, hloaded⟩ := moveLoad_passed (w := ⟨s.vp, {}⟩) hpass hsame
  have htb := loadTb_eq s rows
  generalize (loadTb s rows).vp.tb = tb at htb
  rw [htb] at hmove
  have hrun := runElems_load hq hl (by rw [sees_none hcp]; exact hopen) hop
  rw [sees_none hcp, hmove,
    settleMove_complete (s := s) (s' := s.setVp { s.vp with tb := tb }) hq rfl hloaded.progress hloaded.done] at hrun
  exact ⟨tb, _, hrun, hloaded.resume _⟩

/-! ### What it leaves -/

/-- The destination of a load: the loaded elements, and what was there before. -/
theorem elem_settle_load {e : QEntry} {sz : ElemSize} {ad : Addressing} (hop : e.op = .load sz ad) (hcp : e.copy = none)
    (hsame : e.sameRegister = false) (p : Vp) (k : Fin 64) :
    (e.settle p).elem (fieldC e.cntrl) k = if e.done.getLsbD k then e.res[k] else p.elem (fieldC e.cntrl) k := by
  rw [settle_none hcp, elem_settleOn e p p (by rw [hop]; rfl), written_eq e hsame, result_eq e hsame]

/-- Making vector writes visible where there are none, behind an instruction that has settled its entry and left the queue. -/
theorem flushVector_settled {s : State} {o : Operands} (hq : s.vp.queue = []) (hvbuf : s.vp.vbuf = []) (e r : QEntry)
    (tb₀ tb : List MapRow) :
    ((startedState e tb₀ o s).setVp { r.settle { s.vp with queue := [e], tb := tb } with queue := [] }).flushVector =
      { afterOperands o with vp := r.settle { s.vp with tb := tb }, draws := o.state.draws + 512 } := by
  have hvp : { r.settle { s.vp with queue := [e], tb := tb } with queue := [] } = r.settle { s.vp with tb := tb } :=
    settle_dequeue r { s.vp with tb := tb } hq _
  have hnovbuf : (r.settle { s.vp with tb := tb }).vbuf = [] := by rw [settle_frame]; exact hvbuf
  rw [hvp]
  exact flushVector_empty _ hnovbuf

/-! ### Issue -/

section
variable {sz : ElemSize} {ad : Addressing} {sps : List Spec} {s : State} {o : Operands} {pa : Fin 64 → Nat}

/-- ISSUE of a load whose references pass: it settles an entry, as sent but for its progress, which has loaded every element
that was open. -/
theorem issue_load_pass (hruns : Runs (.load sz ad) sps o s)
    (hsrc : ad = .indexed → fieldB (controlWord o) ≠ fieldC (controlWord o))
    (href : References false sz ad (entryOf (.load sz ad) o s) s pa) :
    ∃ tb r checked, (startedEntry (.load sz ad) o s checked).Loaded r (sentElems (.load sz ad) o s)
        (fun k => loadedValue sz (s.mem.readLE (pa k) sz.bytes) (elemDraw o.state.draws k)) ∧
      issue (.load sz ad) sps s = .next { afterOperands o with
        vp := r.settle { s.vp with tb := tb }, draws := o.state.draws + 512 } := by
  by_cases hopen : sentElems (.load sz ad) o s = 0
  · have hissue := issue_idle hruns (fun h => VOp.noConfusion h) hopen
    rw [hopen]
    exact ⟨s.vp.tb, startedEntry (.load sz ad) o s none, none, .zero _ _, hissue⟩
  · obtain ⟨checked, tb₀, hpass, hissue⟩ := issue_move_pass rfl hruns href (fun h => Bool.noConfusion h) hopen
    have hsame : (startedEntry (.load sz ad) o s checked).sameRegister = false :=
      sameRegister_eq_false rfl fun _ h => hsrc (by cases h; rfl)
    obtain ⟨tb, r, hrun, hloaded⟩ := runElems_load_passed
      (s := startedState (startedEntry (.load sz ad) o s checked) tb₀ o s)
      (e := startedEntry (.load sz ad) o s checked) rfl hruns.len_sentEntry rfl rfl hsame
      hopen hpass
    obtain ⟨hmem, -⟩ := hruns.memory
    have hread (a n : Nat) : (startedState (startedEntry (.load sz ad) o s checked) tb₀ o s).vectorRead a n =
        s.mem.readLE a n := by
      rw [← hmem]
      exact vectorRead_empty _ a n hruns.vbuf
    refine ⟨tb, r, checked, ⟨hloaded.progress, hloaded.done, fun k hk => ?_⟩, ?_⟩
    · rw [← hread]
      exact hloaded.res k hk
    · rw [hissue, hrun, andThen_next]
      exact congrArg Host.Outcome.next (flushVector_settled hruns.queue hruns.vbuf _ r tb₀ tb)

end

/-- Settles O20: by `issue_load_pass` the issue settles an entry that has loaded exactly the active elements. -/
theorem loads : Obligations.Loads := by
  intro c b x i sz ad sps s o pa hmem hruns hsrc href
  obtain ⟨tb, r, checked, hloaded, hissue⟩ := issue_load_pass hruns hsrc href
  have hprogress := hloaded.progress
  have hop : r.op = .load sz ad := by rw [hprogress]; rfl
  have hcp : r.copy = none := by rw [hprogress]; rfl
  have hcntrl : r.cntrl = controlWord o := by rw [hprogress]; rfl
  have hsame : r.sameRegister = false := sameRegister_eq_false (by rw [hop]; rfl) fun _ h => by
    rw [hop] at h
    rw [hcntrl]
    exact hsrc (by cases h; rfl)
  have hdone (k : Fin 64) : r.done.getLsbD k = true ↔ Active s o k := by
    have hsent : r.done = 0 ||| sentElems (.load sz ad) o s := hloaded.done
    rw [hsent, zero_or_mask]
    exact hruns.getLsbD_sentElems rfl k
  have helem (k : Fin 64) := elem_settle_load hop hcp hsame { s.vp with tb := tb } k
  refine ⟨_, (exec_loadForm hmem s).trans hissue, rfl, ?_, fun q k hq => ?_, fun k hk => ?_⟩
  · have hframe := settle_load_frame hop hcp { s.vp with tb := tb }
    dsimp only
    generalize r.settle { s.vp with tb := tb } = q at hframe ⊢
    rw [hframe]
    rfl
  · by_cases hr : q = fieldC (controlWord o)
    · have hinactive := mt (hdone k).mp (hq.resolve_left (not_not.mpr hr))
      rw [hr, ← hcntrl]
      exact (helem k).trans (if_neg hinactive)
    · exact elem_settle_other r _ q k (by rw [hcntrl]; exact hr)
  · have hresult : resultOf o { afterOperands o with
        vp := r.settle { s.vp with tb := tb }, draws := o.state.draws + 512 } k =
        loadedValue sz (s.mem.readLE (pa k) sz.bytes) (elemDraw o.state.draws k) := by
      rw [resultOf, ← hcntrl]
      exact (helem k).trans
        ((if_pos ((hdone k).mpr hk)).trans (hloaded.res k ((hruns.getLsbD_sentElems rfl k).mpr hk)))
    rw [hresult]
    cases sz with
    | long => exact Quad.lo_mk _ _
    | quad => rfl

end Sys2Proof.Machine
end

section
/-! The bytes that a store leaves where several of its elements write one of them (R97): those of an element that no higher one
overlaps. -/

namespace Sys2Proof.Machine

/-! ### The last cell of several elements -/

/-- A list of cells decides an address where none behind it has a cell there. -/
theorem lastCell_flatMap_split {α : Type} {l₁ l₂ : List α} {x : α} {f : α → List Host.Cell} {a : Nat}
    (hbehind : ∀ y ∈ l₂, lastCell (f y) a = none) (hx : (lastCell (f x) a).isSome = true) :
    lastCell ((l₁ ++ x :: l₂).flatMap f) a = lastCell (f x) a := by
  have hnone : lastCell (l₂.flatMap f) a = none := by
    induction l₂ with
    | nil => rfl
    | cons y l₂ ih =>
      rw [List.flatMap_cons, lastCell_append, ih fun z hz => hbehind z (List.mem_cons_of_mem _ hz),
        hbehind y List.mem_cons_self, Option.or_none]
  rw [List.flatMap_append, List.flatMap_cons, lastCell_append, lastCell_append, hnone, Option.none_or]
  exact Option.or_of_isSome hx

/-- Behind an element of a mask the higher ones follow, and no others. -/
theorem elemsOf_split {m : Quad} {k : Fin 64} (hk : m.getLsbD k = true) :
    ∃ l₁ l₂, elemsOf m = l₁ ++ k :: l₂ ∧ ∀ j ∈ l₂, m.getLsbD j = true ∧ k < j := by
  obtain ⟨l₁, l₂, hsplit⟩ := List.append_of_mem ((mem_elemsOf m k).mpr hk)
  have hsorted : (elemsOf m).Pairwise (· < ·) := (List.pairwise_lt_finRange 64).filter _
  rw [hsplit, List.pairwise_append, List.pairwise_cons] at hsorted
  obtain ⟨-, ⟨hhigher, -⟩, -⟩ := hsorted
  refine ⟨l₁, l₂, hsplit, fun j hj => ⟨(mem_elemsOf m j).mp ?_, hhigher j hj⟩⟩
  rw [hsplit]
  exact List.mem_append_right _ (List.mem_cons_of_mem _ hj)

/-! ### The bytes of one element -/

/-- The writes of a store of the elements `m`, in rising order, each from what the registers `p` hold. -/
def storeWrites (c : Config) (sz : ElemSize) (ad : Addressing) (e : QEntry) (p : Vp) (m : Quad) (pa : Fin 64 → Nat) :
    List (List Host.Cell) :=
  (accessesOf m pa).flatMap (storeUnits c sz ad e p (accessesOf m pa) none)

section
variable {sz : ElemSize} {ad : Addressing} {e : QEntry} {m : Quad} {pa : Fin 64 → Nat} {k : Fin 64}
  (hparts : e.parts = [])
include hparts

/-- Before anything has been stored every byte is still to be. -/
theorem toStore_of_parts_nil (i pa a : Nat) : toStore ad e i pa a = true := by
  simp [toStore, covered, stored, hparts]

/-- What an element's own access writes in its bytes. -/
theorem lastCell_storeUnits_own (c : Config) (p : Vp) (oks : List (Nat × Nat)) {b : Nat} (hb : b < sz.bytes) :
    lastCell (storeUnits c sz ad e p oks none (k.val, pa k)).flatten (pa k + b) =
      some (BitVec.ofNat 8 ((storedValue ad sz.bytes e p oks k (pa k)).toNat / 256 ^ b)) := by
  rw [lastCell_storeUnits, if_pos ⟨toStore_of_parts_nil hparts .., by omega, by omega⟩, Nat.add_sub_cancel_left]

/-- The highest element decides what is written in its bytes. -/
theorem lastCell_storeElems_highest (hk : m.getLsbD k = true)
    (hhigher : ∀ j : Fin 64, m.getLsbD j = true → k < j → pa j + sz.bytes ≤ pa k ∨ pa k + sz.bytes ≤ pa j)
    (c : Config) (p : Vp) {b : Nat} (hb : b < sz.bytes) :
    lastCell (storeWrites c sz ad e p m pa).flatten (pa k + b) =
      some (BitVec.ofNat 8 ((storedValue ad sz.bytes e p (accessesOf m pa) k (pa k)).toNat / 256 ^ b)) := by
  obtain ⟨l₁, l₂, hsplit, hbehind⟩ := elemsOf_split hk
  have hflat : (storeWrites c sz ad e p m pa).flatten = (l₁ ++ k :: l₂).flatMap fun i =>
      (storeUnits c sz ad e p (accessesOf m pa) none (i.val, pa i)).flatten := by
    rw [← hsplit]
    simp only [storeWrites, accessesOf, List.flatMap, List.flatten_flatten, List.map_map, Function.comp_def]
  have hown := lastCell_storeUnits_own (k := k) (ad := ad) (pa := pa) hparts c p (accessesOf m pa) hb
  rw [hflat, lastCell_flatMap_split (fun j hj => ?_) (by rw [hown]; rfl), hown]
  obtain ⟨hj, hkj⟩ := hbehind j hj
  have hdisjoint := hhigher j hj hkj
  rw [lastCell_storeUnits, if_neg]
  omega

/-- An element is stored as it is: by VSCAT and with stride zero always, with another stride where no other access overlaps
its own (R97). -/
theorem storedValue_passed
    (hother : ad = .strided ∧ e.scalar.lo ≠ 0 → ∀ j : Fin 64, m.getLsbD j = true → j ≠ k →
      pa j + sz.bytes ≤ pa k ∨ pa k + sz.bytes ≤ pa j) (p : Vp) :
    storedValue ad sz.bytes e p (accessesOf m pa) k (pa k) = p.elem (fieldC e.cntrl) k := by
  by_cases hstride : ad = .strided ∧ e.scalar.lo ≠ 0
  · exact storedValue_eq_elem (hother hstride) (fun q hq => by rw [hparts] at hq; cases hq) p
  · exact if_neg hstride

/-- An element that no higher one overlaps is in memory afterwards (R97, R219 to R222). -/
theorem readLE_stored (hk : m.getLsbD k = true)
    (hother : ∀ j : Fin 64, m.getLsbD j = true → k < j ∨ (j ≠ k ∧ ad = .strided ∧ e.scalar.lo ≠ 0) →
      pa j + sz.bytes ≤ pa k ∨ pa k + sz.bytes ≤ pa j) (c : Config) (p : Vp) {mem : Memory} (hmem : mem.wf = true) :
    (mem.writeCells (storeWrites c sz ad e p m pa).flatten).readLE (pa k) sz.bytes =
      (p.elem (fieldC e.cntrl) k).toNat % 2 ^ (8 * sz.bytes) := by
  have hbytes : (256 : Nat) ^ sz.bytes = 2 ^ (8 * sz.bytes) := by rw [Nat.pow_mul]
  rw [← hbytes]
  refine Memory.readLE_eq fun b hb => ?_
  rw [Memory.read_writeCells _ hmem, lastCell_storeElems_highest hparts hk (fun j hj hkj => hother j hj (.inl hkj)) c p hb,
    storedValue_passed hparts fun hstride j hj hjk => hother j hj (.inr ⟨hjk, hstride⟩)]
  rfl

end

end Sys2Proof.Machine
end

section
/-! Stores whose references pass (R211, R219 to R222). -/

namespace Sys2Proof.Machine

/-! ### How a store executes -/

/-- A store of no elements writes nothing. -/
theorem storeWrites_zero (c : Config) (sz : ElemSize) (ad : Addressing) (e : QEntry) (p : Vp) (pa : Fin 64 → Nat) :
    storeWrites c sz ad e p 0 pa = [] := by
  have hnone : elemsOf (0 : Quad) = [] := by simp [elemsOf]
  rw [storeWrites, accessesOf, hnone]
  rfl

/-- A store writes the elements whose references have passed, none over the operands. -/
theorem moveStore_passed {sz : ElemSize} {ad : Addressing} {w : View} {e : QEntry} {m : Quad} {s : State} {pa : Fin 64 → Nat}
    (hpass : Passed (moveRefs s e w.p ad sz.bytes true m) m pa)
    (hguards : ∀ k : Fin 64, m.getLsbD k = true → ∀ g ∈ e.guards, g < pa k ∨ pa k + sz.bytes ≤ g) :
    ∃ rows e', moveStore sz ad w e m none s =
        .ok ((loadTb s rows).vectorWrite (storeWrites s.cfg sz ad e w.p m pa)) e' ∧ e.OnlyProgress e' ∧
      e'.done = e.done ||| m := by
  obtain ⟨hoks, hfaults, hrefusal⟩ := hpass
  have hover : overOperands sz.bytes e (accessesOf m pa) = false := overOperands_eq_false hguards
  have hfin : (accessesOf m pa).filter (fun x =>
      (partsValue (partsOf s.cfg sz none (fun _ _ => 0) (accessesOf m pa) ++ e.parts) x.1 sz.bytes).isSome) =
      accessesOf m pa :=
    List.filter_eq_self.mpr fun x hx => partsValue_isSome_of_mem hx
  have hcfg (rows : List MapRow) : (loadTb s rows).cfg = s.cfg := by rw [loadTb_eq]; rfl
  unfold moveStore
  simp only [hoks, hfaults, hrefusal, pickFault, hover, Bool.false_eq_true, if_false, hfin, storeElems, hcfg]
  refine ⟨_, _, rfl, rfl, ?_⟩
  simp only [markAccessed, accessMask_accessesOf]

/-- What settling a store changes: what depends on an unreported exception. -/
theorem settle_store_frame {e : QEntry} {sz : ElemSize} {ad : Addressing} (hop : e.op = .store sz ad) (hcp : e.copy = none)
    (p : Vp) : e.settle p = { p with taint := (e.settle p).taint } := by
  rw [settle_none hcp]
  obtain ⟨op, _⟩ := e
  subst hop
  rfl

/-- At the head of the queue a store completes: its writes are under way, and of the rest of the machine only the translation
buffer, what depends on an unreported exception and the places that have been stored are others. -/
theorem runElems_store_passed {sz : ElemSize} {ad : Addressing} {e : QEntry} {s : State} {pa : Fin 64 → Nat}
    (hq : s.vp.queue = [e]) (hl : e.len.toNat ≤ 64) (hop : e.op = .store sz ad) (hcp : e.copy = none)
    (hopen : View.openElems ⟨s.vp, {}⟩ e ≠ 0)
    (hpass : Passed (moveRefs s e s.vp ad sz.bytes true (View.openElems ⟨s.vp, {}⟩ e)) (View.openElems ⟨s.vp, {}⟩ e) pa)
    (hguards : ∀ k : Fin 64, (View.openElems ⟨s.vp, {}⟩ e).getLsbD k = true → ∀ g ∈ e.guards,
      g < pa k ∨ pa k + sz.bytes ≤ g) :
    ∃ tb taint vstores, runElems 0 allElements none s = .next { s with
      vp := { s.vp with
        queue := [], tb := tb, taint := taint,
        vbuf := s.vp.vbuf ++ storeWrites s.cfg sz ad e s.vp (View.openElems ⟨s.vp, {}⟩ e) pa }
      vstores := vstores } := by
  obtain ⟨rows, e', hmove, hprogress, hdone⟩ := moveStore_passed (w := ⟨s.vp, {}⟩) hpass hguards
  have htb := loadTb_eq s rows
  generalize (loadTb s rows).vp.tb = tb at htb
  rw [htb] at hmove
  generalize storeWrites s.cfg sz ad e s.vp (View.openElems ⟨s.vp, {}⟩ e) pa = us at hmove
  have hrun := runElems_store hq hl (by rw [sees_none hcp]; exact hopen) hop
  rw [sees_none hcp, hmove,
    settleMove_complete (s := s) (s' := (s.setVp { s.vp with tb := tb }).vectorWrite us) hq rfl hprogress hdone] at hrun
  have hr := resume_progress e e' ⟨s.vp, {}⟩ hprogress
  have hframe := settle_store_frame (e := e'.resume ⟨s.vp, {}⟩) (by rw [hr]; exact hop) (by rw [hr]; exact hcp)
    ((s.setVp { s.vp with tb := tb }).vectorWrite us).vp
  generalize (e'.resume ⟨s.vp, {}⟩).settle ((s.setVp { s.vp with tb := tb }).vectorWrite us).vp = q at hframe hrun
  rw [hframe] at hrun
  exact ⟨tb, q.taint, _, hrun⟩

/-! ### Issue -/

section
variable {sz : ElemSize} {ad : Addressing} {sps : List Spec} {s : State} {o : Operands} {pa : Fin 64 → Nat}

/-- The machine behind a store that has been issued: the writes `us` are in memory, and else only the translation buffer, what
depends on an unreported exception, the places that have been stored and the free values are others. -/
def storedState (s : State) (o : Operands) (us : List (List Host.Cell)) (tb : List MapRow) (taint : Taint)
    (vstores : List Nat) : State :=
  { afterOperands o with
    vp := { s.vp with taint := taint, tb := tb }, mem := s.mem.writeCells us.flatten, vstores := vstores,
    draws := o.state.draws + 512 }

/-- Making the writes of a store visible that has left the queue, where no others are under way. -/
theorem flushVector_stored (hq : s.vp.queue = []) (hvbuf : s.vp.vbuf = []) (hmem : o.state.mem = s.mem) (e : QEntry)
    (tb₀ tb : List MapRow) (taint : Taint) (vstores : List Nat) (us : List (List Host.Cell)) :
    ({ startedState e tb₀ o s with
      vp := { s.vp with queue := [], tb := tb, taint := taint, vbuf := s.vp.vbuf ++ us }
      vstores := vstores } : State).flushVector = storedState s o us tb taint vstores := by
  have hvp : ({ s.vp with queue := [], tb := tb, taint := taint, vbuf := [] } : Vp) =
      { s.vp with tb := tb, taint := taint } := by rw [← hq, ← hvbuf]
  rw [hvbuf, List.nil_append, storedState, ← hvp, ← hmem]
  rfl

/-- ISSUE of a store whose references pass, none over the operands: it has written every element that was open. -/
theorem issue_store_pass (hruns : Runs (.store sz ad) sps o s) (href : References true sz ad (entryOf (.store sz ad) o s) s pa)
    (hguards : ∀ k, Active s o k → ∀ g ∈ o.guards, g < pa k ∨ pa k + sz.bytes ≤ g) :
    ∃ checked tb taint vstores, issue (.store sz ad) sps s = .next (storedState s o
      (storeWrites o.state.cfg sz ad (startedEntry (.store sz ad) o s checked) s.vp (sentElems (.store sz ad) o s) pa)
      tb taint vstores) := by
  obtain ⟨hmem, -⟩ := hruns.memory
  by_cases hopen : sentElems (.store sz ad) o s = 0
  · have hissue := issue_idle hruns (fun h => VOp.noConfusion h) hopen
    rw [settle_store_frame (e := sentEntry (.store sz ad) o s) rfl rfl s.vp] at hissue
    refine ⟨none, s.vp.tb, ((sentEntry (.store sz ad) o s).settle s.vp).taint, o.state.vstores, hissue.trans ?_⟩
    rw [hopen, storeWrites_zero, storedState, ← hmem]
    rfl
  · obtain ⟨checked, tb₀, hpass, hissue⟩ := issue_move_pass rfl hruns href (fun _ => hguards) hopen
    obtain ⟨tb, taint, vstores, hrun⟩ := runElems_store_passed
      (s := startedState (startedEntry (.store sz ad) o s checked) tb₀ o s)
      (e := startedEntry (.store sz ad) o s checked) rfl hruns.len_sentEntry rfl rfl hopen hpass
      fun k hk => hguards k ((hruns.getLsbD_sentElems rfl k).mp hk)
    refine ⟨checked, tb, taint, vstores, ?_⟩
    rw [hissue, hrun, andThen_next]
    exact congrArg Host.Outcome.next (flushVector_stored hruns.queue hruns.vbuf hmem _ tb₀ tb taint vstores _)

end

/-- Settles O22: by `issue_store_pass` the issue writes every active element and nothing else; `readLE_stored` says what of
that is there afterwards. -/
theorem stores : Obligations.Stores := by
  intro c b x i sz ad sps s o pa hmem hruns e href hwf hguards
  obtain ⟨checked, tb, taint, vstores, hissue⟩ := issue_store_pass hruns href hguards
  have hactive := hruns.getLsbD_sentElems rfl
  have hown : OwnPass s (startedEntry (.store sz ad) o s checked) ad sz.bytes true (sentElems (.store sz ad) o s)
      (accessesOf (sentElems (.store sz ad) o s) pa) := fun y hy => by
    obtain ⟨k, hk, rfl⟩ := mem_accessesOf.mp hy
    exact ⟨k, hk, rfl, 0, href k ((isActive_sentEntry _ s o k hruns.queue rfl).mpr ((hactive k).mp hk)) 0⟩
  obtain ⟨-, hwbuf⟩ := hruns.memory
  refine ⟨_, (exec_storeForm hmem s).trans hissue, rfl, rfl, fun a ha => ?_, fun k hk hother => ?_⟩
  · have hkeep := hown.read_stored o.state.cfg s.vp s.mem fun y hy => by
      obtain ⟨k, hk, rfl⟩ := mem_accessesOf.mp hy
      exact ha k ((hactive k).mp hk)
    refine ⟨hkeep, ?_⟩
    rw [State.scalarByte, State.scalarByte, ← hwbuf, ← hkeep]
    rfl
  · exact readLE_stored (e := startedEntry (.store sz ad) o s checked) rfl ((hactive k).mpr hk)
      (fun j hj => hother j ((hactive j).mp hj)) o.state.cfg s.vp hwf

end Sys2Proof.Machine
end

section
/-! What an instruction that takes a control word and accesses no memory leaves on an idle vector processor: its results, its mask
bits, and all that it leaves alone (R22, R180, R184, R277). -/

namespace Sys2Proof.Machine

/-! ### What executing leaves alone -/

/-- Settling an instruction whose destination is a vector register, IOTA and its count apart. -/
theorem settleOn_frame_register (e : QEntry) (s p : Vp) (hw : e.op.writesReg = true) (hl : e.op.isMemory = false)
    (hi : e.op ≠ .iota) : e.settleOn s p = { p with v := (e.settleOn s p).v, taint := (e.settleOn s p).taint } := by
  obtain ⟨op, _⟩ := e
  cases op
  case iota => exact absurd rfl hi
  case load => cases hl
  case intCompare | floatCompare | store | mtvp | vsync => cases hw
  all_goals rfl

/-- Settling a compare changes VMR and what it depends on (R234, R310). -/
theorem settleOn_frame_mask (e : QEntry) (s p : Vp) (hw : e.op.writesMask = true) :
    e.settleOn s p = { p with vmr := (e.settleOn s p).vmr, taint := (e.settleOn s p).taint } := by
  obtain ⟨op, _⟩ := e
  cases op
  case intCompare | floatCompare => rfl
  all_goals cases hw

section
variable (e : QEntry) (p : Vp) (hcp : e.copy = none)
include hcp

/-- An instruction that writes a vector register changes besides only the record of exceptions (R22, R186). -/
theorem executed_onlyResults (hw : e.op.writesReg = true) (hm : e.op.isMemory = false) (hi : e.op ≠ .iota) :
    OnlyResults p (executed e p) := by
  rw [executed_none e p hcp]
  rw [settleOn_frame_register (finishElems e _ _) _ _ hw hm hi, Vp.recordAex_frame]
  rfl

/-- Where no element raises an exception, the finished elements are settled and nothing is recorded (R184). -/
theorem executed_of_no_exception (h : ∀ k, ((effectOf e p).elem k).types = 0) :
    executed e p = (finishElems e ⟨p, {}⟩ (View.openElems ⟨p, {}⟩ e)).settleOn p p := by
  rw [executed_none e p hcp]
  rw [unionTypes_zero _ _ fun k _ => h k, Vp.recordAex_zero]

end

/-- Executing touches no vector register but the destination (R22). -/
theorem elem_executed_other (e : QEntry) (p : Vp) {r : BitVec 4} (k : Fin 64) (hr : r ≠ fieldC e.cntrl) :
    (executed e p).elem r k = p.elem r k :=
  (elem_settle_other (finishElems e _ _) _ r k hr).trans (Vp.elem_recordAex _ _ _ _ _)

/-! ### The instruction that is sent -/

/-- The state that such an instruction leaves, where nothing turns it away and the vector processor is idle. -/
def operatedState (op : VOp) (o : Operands) (s : State) : State :=
  { afterOperands o with vp := executed (sentEntry op o s) s.vp, draws := o.state.draws + 512 }

theorem operatedState_vp (op : VOp) (o : Operands) (s : State) :
    (operatedState op o s).vp = executed (sentEntry op o s) s.vp := rfl

theorem operatedState_onlyVp (op : VOp) (o : Operands) (s : State) : OnlyVp (afterOperands o) (operatedState op o s) := rfl

/-- The model reads its first operand where claims say (R230, R279). -/
theorem firstOperand_sentEntry {op : VOp} (hm : op.isMemory = false) (hu : op.usesLength = true) (form : Form) (o : Operands)
    (s : State) (k : Fin 64) : firstOperand s.vp (sentEntry op o s) form k = firstValue form s o k := by
  cases form with
  | vv => rw [firstOperand, firstValue, entryOf_cntrl hu]
  | vs => exact entryOf_scalar hm o s

section
variable {op : VOp} {sps : List Spec} {o : Operands} {s : State} (hruns : Runs op sps o s) (hm : op.isMemory = false)
  (hu : op.usesLength = true)
include hruns hm

theorem Runs.issue_operated : issue op sps s = .next (operatedState op o s) := by
  obtain ⟨ho, hi, hq, ha, hl⟩ := hruns
  exact issue_operate op sps s o ho hi hq ha hm fun _ => hl

include hu

/-- Every active element of Vc is the result of its element operation (R180, R277). -/
theorem Runs.resultOf_operated (hw : op.writesReg = true) {k : Fin 64} (hk : Active s o k) :
    resultOf o (operatedState op o s) k = ((effectOf (sentEntry op o s) s.vp).elem k).val := by
  rw [resultOf, operatedState_vp, ← entryOf_cntrl hu o s]
  exact (elem_executed (sentEntry op o s) s.vp rfl rfl hw (sameRegister_of_not_memory _ hm hu) k).trans
    (if_pos ((hruns.getLsbD_sentElems hu k).mpr hk))

/-- Every other element of every register is as before (R22). -/
theorem Runs.otherElementsKeep_operated (hw : op.writesReg = true) : OtherElementsKeep s (operatedState op o s) o := by
  intro r k h
  rw [← entryOf_cntrl hu o s] at h
  rw [operatedState_vp]
  by_cases hr : r = fieldC (sentEntry op o s).cntrl
  · have hk : ¬ Active s o k := h.resolve_left (not_not.mpr hr)
    rw [hr]
    exact (elem_executed (sentEntry op o s) s.vp rfl rfl hw (sameRegister_of_not_memory _ hm hu) k).trans
      (if_neg fun hopen => hk ((hruns.getLsbD_sentElems hu k).mp hopen))
  · exact elem_executed_other _ _ k hr

omit hm

/-- The record of exceptions is that of what the active elements raise (R185, R186, R312). -/
theorem Runs.recorded_operated : ∃ types : Fin 64 → AexSet,
    (∀ k, Active s o k → types k = ((effectOf (sentEntry op o s) s.vp).elem k).types) ∧
      (∀ k, ¬ Active s o k → types k = 0) ∧
      Recorded types (recordDest (sentEntry op o s)) s.vp (operatedState op o s).vp := by
  refine ⟨_, fun k hk => ?_, fun k hk => ?_, recorded_executed (sentEntry op o s) s.vp⟩
  · exact if_pos ((hruns.getLsbD_sentElems hu k).mpr hk)
  · exact if_neg fun hopen => hk ((hruns.getLsbD_sentElems hu k).mp hopen)

/-- Every active mask bit is the result of its element operation (R234, R310). -/
theorem Runs.vmr_operated (hw : op.writesMask = true) {k : Fin 64} (hk : Active s o k) :
    (operatedState op o s).vp.vmr.getLsbD k = ((effectOf (sentEntry op o s) s.vp).elem k).val.getLsbD 0 :=
  (vmr_executed (sentEntry op o s) s.vp rfl rfl hw k).trans (if_pos ((hruns.getLsbD_sentElems hu k).mpr hk))

/-- Every other mask bit is as before (R234, R310). -/
theorem Runs.vmr_operated_other (hw : op.writesMask = true) {k : Fin 64} (hk : ¬ Active s o k) :
    (operatedState op o s).vp.vmr.getLsbD k = s.vp.vmr.getLsbD k :=
  (vmr_executed (sentEntry op o s) s.vp rfl rfl hw k).trans
    (if_neg fun hopen => hk ((hruns.getLsbD_sentElems hu k).mp hopen))

end

end Sys2Proof.Machine
end

section
/-! Longword integer arithmetic and compares (R230 to R240). -/

namespace Sys2Proof.Machine

/-! ### One element -/

theorem intElem_lo (op : IntOp) (b : Bool) (x y free : Quad) :
    (intElem op b x y free).val.lo = BitVec.ofInt 32 (intResult op x.lo y.lo) := Quad.lo_mk _ _

/-- An element raises integer overflow, where EXC enables it and the exact result overflows, or nothing (R240). -/
theorem intElem_types (op : IntOp) (b : Bool) (x y free : Quad) :
    (intElem op b x y free).types = 32 ∧ b = true ∧ Overflows (intResult op x.lo y.lo) ∨
      (intElem op b x y free).types = 0 ∧ ¬ (b = true ∧ Overflows (intResult op x.lo y.lo)) := by
  rw [← intOverflows_iff, ← Bool.and_eq_true]
  simp only [intElem, Elem.long]
  split_ifs with h
  · exact .inl ⟨rfl, h⟩
  · exact .inr ⟨rfl, h⟩

/-- The relation that is computed from "less" and "equal" is the one that the compare function names (R233, R311). -/
theorem relation_iff (fn : BitVec 3) {less equal : Bool} {x y : ℚ} (hless : less = true ↔ x < y)
    (hequal : equal = true ↔ x = y) : relation fn less equal = true ↔ Relation fn x y := by
  have hgt : (!less && !equal) = true ↔ x > y := by
    rw [gt_iff_lt, ← not_le, le_iff_lt_or_eq, ← hless, ← hequal, ← Bool.not_or, Bool.not_eq_true', Bool.or_eq_false_iff,
      not_or, Bool.not_eq_true, Bool.not_eq_true]
  have hle : (less || equal) = true ↔ x ≤ y := by rw [Bool.or_eq_true, hless, hequal, le_iff_lt_or_eq]
  have hne : (!equal) = true ↔ x ≠ y := by rw [ne_eq, ← hequal, Bool.not_eq_true', Bool.not_eq_true]
  have hge : (!less) = true ↔ x ≥ y := by rw [ge_iff_le, ← not_lt, ← hless, Bool.not_eq_true', Bool.not_eq_true]
  have hreserved : false = true ↔ False := iff_of_false Bool.false_ne_true id
  have hfn := fn.isLt
  unfold relation Relation
  generalize fn.toNat = n at hfn ⊢
  interval_cases n
  exacts [hgt, hequal, hless, hreserved, hle, hne, hge, hreserved]

/-- The integer compare is that of the signed longwords (R233). -/
theorem intRelation_iff (fn : BitVec 3) (a b : Long) :
    intRelation fn a b = true ↔ Relation fn (a.toInt : ℚ) (b.toInt : ℚ) := by
  refine relation_iff fn ?_ ?_
  · rw [BitVec.slt_iff_toInt_lt, Int.cast_lt]
  · rw [beq_iff_eq, Int.cast_inj, BitVec.toInt_inj]

/-! ### The elements of the instructions -/

theorem effectOf_intArith (op : IntOp) (form : Form) (o : Operands) (s : State) (k : Fin 64) :
    (effectOf (sentEntry (.intArith op form) o s) s.vp).elem k =
      intElem op (exc (controlWord o)) (firstValue form s o k) (secondValue s o k) (elemDraw o.state.draws k) := by
  rw [← firstOperand_sentEntry (op := .intArith op form) rfl rfl]
  rfl

theorem effectOf_intCompare (form : Form) (o : Operands) (s : State) (k : Fin 64) :
    (effectOf (sentEntry (.intCompare form) o s) s.vp).elem k =
      Elem.bit (intRelation (compareFn (controlWord o)) (firstValue form s o k).lo (secondValue s o k).lo) := by
  rw [← firstOperand_sentEntry (op := .intCompare form) rfl rfl]
  rfl

theorem getLsbD_bit (b : Bool) (types : AexSet) : (Elem.bit b types).val.getLsbD 0 = b := by
  cases b <;> simp [Elem.bit]

/-! ### The statements -/

theorem exec_integerForm {c x : Spec} {i : Instr} {op : IntOp} {form : Form} {sps : List Spec}
    (h : (i, op, form, sps) ∈ integerForms c x) (s : State) : exec i s = issue (.intArith op form) sps s := by
  have hmem : (i, VOp.intArith op form, sps) ∈ lengthForms c c x := by
    simp only [lengthForms, List.append_assoc]
    exact List.mem_append_left _ (List.mem_map_of_mem h)
  exact (exec_lengthForm hmem s).1

theorem exec_integerCompareForm {c x : Spec} {i : Instr} {form : Form} {sps : List Spec}
    (h : (i, form, sps) ∈ integerCompareForms c x) (s : State) : exec i s = issue (.intCompare form) sps s := by
  have hmem : (i, VOp.intCompare form, sps) ∈ lengthForms c c x := by
    simp only [lengthForms, List.mem_append]
    exact .inl (.inl (.inl (.inl (.inl (.inl (.inr (List.mem_map_of_mem h)))))))
  exact (exec_lengthForm hmem s).1

/-- Settles O11: issue executes the instruction; `intElem_lo` and `intElem_types` say what an active element leaves and
raises, `Runs.recorded_operated` what of that is recorded. -/
theorem integerArithmetic : Obligations.IntegerArithmetic := by
  intro c x i op form sps s o hmem hruns trueResult
  have hresult (k : Fin 64) : intResult op (firstValue form s o k).lo (secondValue s o k).lo = trueResult k := by
    cases op <;> rfl
  obtain ⟨types, hactive, hinactive, hrecorded⟩ := hruns.recorded_operated rfl
  have htypes (k : Fin 64) :
      types k = 32 ∧ (Active s o k ∧ exc (controlWord o) = true ∧ Overflows (trueResult k)) ∨
        types k = 0 ∧ ¬ (Active s o k ∧ exc (controlWord o) = true ∧ Overflows (trueResult k)) := by
    by_cases hk : Active s o k
    · rw [hactive k hk, effectOf_intArith, ← hresult]
      simpa [hk] using intElem_types op (exc (controlWord o)) (firstValue form s o k) (secondValue s o k) _
    · exact .inr ⟨hinactive k hk, fun h => hk h.1⟩
  refine ⟨operatedState (.intArith op form) o s, types, (exec_integerForm hmem s).trans (hruns.issue_operated rfl),
    operatedState_onlyVp _ o s, executed_onlyResults (sentEntry (.intArith op form) o s) s.vp rfl rfl rfl VOp.noConfusion,
    hruns.otherElementsKeep_operated rfl rfl rfl, fun k hk => ?_, fun k => (htypes k).imp And.left And.left, fun k => ?_,
    hrecorded⟩
  · rw [hruns.resultOf_operated rfl rfl rfl hk, effectOf_intArith, intElem_lo, hresult]
  · rcases htypes k with ⟨h32, hraises⟩ | ⟨hzero, hnot⟩
    · exact iff_of_true h32 hraises
    · exact iff_of_false (by rw [hzero]; decide) hnot

/-- Settles O15: issue executes the instruction, whose mask bits are the relation of the signed longwords
(`intRelation_iff`), and of which no element raises an exception. -/
theorem integerCompares : Obligations.IntegerCompares := by
  intro c x i form sps s o hmem hruns
  have hvp : executed (sentEntry (.intCompare form) o s) s.vp =
      (finishElems (sentEntry (.intCompare form) o s) ⟨s.vp, {}⟩ (sentElems (.intCompare form) o s)).settleOn s.vp s.vp :=
    executed_of_no_exception _ _ rfl fun k => by rw [effectOf_intCompare]; rfl
  refine ⟨operatedState (.intCompare form) o s, (exec_integerCompareForm hmem s).trans (hruns.issue_operated rfl),
    operatedState_onlyVp _ o s, ?_, fun k hk => ?_, fun k hk => hruns.vmr_operated_other rfl rfl hk⟩
  · rw [operatedState_vp, hvp]
    exact settleOn_frame_mask _ _ _ rfl
  · rw [hruns.vmr_operated rfl rfl hk, effectOf_intCompare, getLsbD_bit]
    exact intRelation_iff _ _ _

end Sys2Proof.Machine
end

section
/-! The logical and shift instructions (R250 to R261). -/

namespace Sys2Proof.Machine

/-! ### One element -/

/-- The Boolean function of a logical instruction, bit by bit (R251 to R253). -/
theorem getLsbD_logicFn (op : LogicOp) (a b : Long) (i : Nat) :
    (logicFn op a b).getLsbD i =
      match op with
      | .bis => a.getLsbD i || b.getLsbD i
      | .xor => a.getLsbD i ^^ b.getLsbD i
      | .bic => !a.getLsbD i && b.getLsbD i := by
  cases op with
  | bis => exact BitVec.getLsbD_or
  | xor => exact BitVec.getLsbD_xor
  | bic =>
    rw [logicFn, BitVec.getLsbD_and, BitVec.getLsbD_not]
    cases hb : b.getLsbD i with
    | false => rw [Bool.and_false, Bool.and_false]
    | true => rw [decide_eq_true (BitVec.lt_of_getLsbD hb), Bool.true_and]

/-- The count of a shift is the low five bits of its operand (R257). -/
theorem shiftCount_eq (cnt : Quad) : (cnt.lo.extractLsb' 0 5).toNat = cnt.toNat % 32 := by
  simp only [Quad.lo, BitVec.extractLsb'_toNat, Nat.shiftRight_zero]
  exact Nat.mod_mod_of_dvd _ (by decide)

/-- Shifting left multiplies, shifting right divides, by a power of two (R257). -/
theorem toNat_shiftFn (op : ShiftOp) (cnt : Quad) (x : Long) :
    (shiftFn op cnt.lo x).toNat =
      match op with
      | .left => x.toNat * 2 ^ (cnt.toNat % 32) % 2 ^ 32
      | .right => x.toNat / 2 ^ (cnt.toNat % 32) := by
  rw [← shiftCount_eq]
  cases op with
  | left => exact (BitVec.toNat_shiftLeft ..).trans (by rw [Nat.shiftLeft_eq])
  | right => exact (BitVec.toNat_ushiftRight ..).trans (Nat.shiftRight_eq_div_pow ..)

/-! ### The elements of the instructions -/

theorem effectOf_logical (op : LogicOp) (form : Form) (o : Operands) (s : State) (k : Fin 64) :
    (effectOf (sentEntry (.logical op form) o s) s.vp).elem k =
      logicElem op (firstValue form s o k) (secondValue s o k) := by
  rw [← firstOperand_sentEntry (op := .logical op form) rfl rfl]
  rfl

theorem effectOf_shift (op : ShiftOp) (form : Form) (o : Operands) (s : State) (k : Fin 64) :
    (effectOf (sentEntry (.shift op form) o s) s.vp).elem k =
      shiftElem op (firstValue form s o k) (secondValue s o k) (elemDraw o.state.draws k) := by
  rw [← firstOperand_sentEntry (op := .shift op form) rfl rfl]
  rfl

/-! ### Issue -/

/-- ISSUE of an instruction that writes a vector register and can raise no exception: the active elements of that register
are its results, and nothing else changes but what they depend on (R22, R184). -/
theorem Runs.issue_of_no_exception {op : VOp} {sps : List Spec} {o : Operands} {s : State} {f : Fin 64 → Elem}
    (hruns : Runs op sps o s) (hm : op.isMemory = false) (hu : op.usesLength = true) (hw : op.writesReg = true)
    (hi : op ≠ .iota) (heffect : ∀ k, (effectOf (sentEntry op o s) s.vp).elem k = f k) (hnone : ∀ k, (f k).types = 0) :
    ∃ t, issue op sps s = .next t ∧ OnlyVp (afterOperands o) t ∧ t.vp = { s.vp with v := t.vp.v, taint := t.vp.taint } ∧
      OtherElementsKeep s t o ∧ ∀ k, Active s o k → resultOf o t k = (f k).val := by
  refine ⟨operatedState op o s, hruns.issue_operated hm, operatedState_onlyVp op o s, ?_,
    hruns.otherElementsKeep_operated hm hu hw, fun k hk => ?_⟩
  · rw [operatedState_vp, executed_of_no_exception _ _ rfl fun k => (congrArg Elem.types (heffect k)).trans (hnone k)]
    exact settleOn_frame_register (finishElems (sentEntry op o s) _ _) _ _ hw hm hi
  · rw [hruns.resultOf_operated hm hu hw hk, heffect]

/-! ### The statements -/

theorem exec_logicalForm {c x : Spec} {i : Instr} {op : LogicOp} {form : Form} {sps : List Spec}
    (h : (i, op, form, sps) ∈ logicalForms c x) (s : State) : exec i s = issue (.logical op form) sps s := by
  have hmem : (i, VOp.logical op form, sps) ∈ lengthForms c c x := by
    simp only [lengthForms, List.append_assoc]
    exact List.mem_append_right _ (List.mem_append_left _ (List.mem_map_of_mem h))
  exact (exec_lengthForm hmem s).1

theorem exec_shiftForm {c x : Spec} {i : Instr} {op : ShiftOp} {form : Form} {sps : List Spec}
    (h : (i, op, form, sps) ∈ shiftForms c x) (s : State) : exec i s = issue (.shift op form) sps s := by
  have hmem : (i, VOp.shift op form, sps) ∈ lengthForms c c x := by
    simp only [lengthForms, List.append_assoc]
    exact List.mem_append_right _ (List.mem_append_right _ (List.mem_append_left _ (List.mem_map_of_mem h)))
  exact (exec_lengthForm hmem s).1

/-- Settles O12: issue leaves what `logicElem` gives, which copies the high longword; `getLsbD_logicFn` says what the low one
is. -/
theorem logicalOperations : Obligations.LogicalOperations := by
  intro c x i op form sps s o hmem hruns
  obtain ⟨t, hissue, honly, hframe, hothers, hresult⟩ :=
    hruns.issue_of_no_exception rfl rfl rfl VOp.noConfusion (effectOf_logical op form o s) fun _ => rfl
  refine ⟨t, (exec_logicalForm hmem s).trans hissue, honly, hframe, hothers, fun k hk => ?_⟩
  rw [hresult k hk, logicElem, Quad.hi_mk, Quad.lo_mk]
  exact ⟨rfl, getLsbD_logicFn op _ _⟩

/-- Settles O13: issue leaves what `shiftElem` gives; `toNat_shiftFn` says what its low longword is. -/
theorem shifts : Obligations.Shifts := by
  intro c x i op form sps s o hmem hruns
  obtain ⟨t, hissue, honly, hframe, hothers, hresult⟩ :=
    hruns.issue_of_no_exception rfl rfl rfl VOp.noConfusion (effectOf_shift op form o s) fun _ => rfl
  refine ⟨t, (exec_shiftForm hmem s).trans hissue, honly, hframe, hothers, fun k hk => ?_⟩
  rw [hresult k hk, shiftElem, Elem.long, Quad.lo_mk]
  exact toNat_shiftFn op _ _

end Sys2Proof.Machine
end

section
/-! Floating add, subtract, multiply and divide on the vector registers (R276 to R303). -/

namespace Sys2Proof.Machine

/-! ### The encoded reserved operand -/

/-- The encoded reserved operand holds its exception types, where they fit in its four bits (R278). -/
theorem holdsReserved_encRsvd {types : AexSet} (h : types.toNat < 16) (free : Quad) :
    HoldsReserved (encRsvd types free) types := by
  have hlow : (encRsvd types free).extractLsb' 0 16 = (0x800#12 : BitVec 12) ++ types.extractLsb' 0 4 :=
    BitVec.extractLsb'_append_eq_right (w' := 12 + 4)
  rw [HoldsReserved, hlow]
  generalize types = ts at h
  revert ts
  decide

theorem rsvdDivideTypes_cases (pick : Quad) :
    rsvdDivideTypes pick = 2 ∨ rsvdDivideTypes pick = 4 ∨ rsvdDivideTypes pick = 6 := by
  unfold rsvdDivideTypes
  split
  exacts [.inr (.inl rfl), .inl rfl, .inr (.inr rfl)]

/-- Rounding into a format raises overflow or underflow (R276). -/
theorem encode_error_types {t : FloatFmt} {x : Ratio} {b : Bool} {ts : AexSet} (h : t.encode x b = .error ts) :
    ts = AexSet.overflow ∨ ts = AexSet.underflow := by
  unfold FloatFmt.encode at h
  simp only at h
  split_ifs at h <;> cases h
  exacts [.inl rfl, .inr rfl]

/-! ### One element -/

theorem holds_place (t : FloatFmt) (x free : Quad) : Holds t (t.place x free) x := by
  cases t with
  | f => exact Quad.lo_mk _ _
  | d => rfl
  | g => rfl

/-- An element's result, of rounding an exact value, is what R276 and R278 say. -/
theorem elem_encode_rounds (t : FloatFmt) (x : Ratio) (b : Bool) (free : Quad) :
    Rounds t x b (t.elem (t.encode x b) free).val (t.elem (t.encode x b) free).types := by
  unfold Rounds
  cases h : t.encode x b with
  | ok y => exact ⟨holds_place t y free, rfl⟩
  | error ts =>
    refine ⟨holdsReserved_encRsvd ?_ free, rfl⟩
    rcases encode_error_types h with rfl | rfl <;> decide

/-- One element of floating arithmetic is what R276 and R278 say. -/
theorem elem_farith_outcome (t : FloatFmt) (op : FloatOp) (a b : Quad) (x : Bool) (pick free : Quad) :
    FloatOutcome t op x a b (t.elem (farith t op a b x pick) free).val (t.elem (farith t op a b x pick) free).types := by
  by_cases hr : t.isRsvd a = true ∨ t.isRsvd b = true <;> by_cases hz : op = .div ∧ t.isZero b = true
  · have hf : farith t op a b x pick = .error (rsvdDivideTypes pick) := by simp [farith, hr, hz.1, hz.2]
    rw [hf]
    refine ⟨fun h => absurd hr h, fun _ h => absurd hz h, fun h => absurd hr h, fun _ _ => ⟨?_, rsvdDivideTypes_cases pick⟩⟩
    refine holdsReserved_encRsvd ?_ free
    rcases rsvdDivideTypes_cases pick with h | h | h <;> rw [h] <;> decide
  · have hf : farith t op a b x pick = .error AexSet.reservedOperand := by simp [farith, hr, hz]
    rw [hf]
    exact ⟨fun h => absurd hr h, fun _ _ => ⟨holdsReserved_encRsvd (by decide) free, rfl⟩, fun h => absurd hr h,
      fun _ h => absurd h hz⟩
  · have hf : farith t op a b x pick = .error AexSet.divideByZero := by simp [farith, hr, hz.1, hz.2]
    rw [hf]
    exact ⟨fun _ h => absurd hz h, fun h => absurd h hr, fun _ _ => ⟨holdsReserved_encRsvd (by decide) free, rfl⟩,
      fun h => absurd h hr⟩
  · have hf : farith t op a b x pick = t.encode (Ratio.op op (t.value a) (t.value b)) x := by simp [farith, hr, hz]
    rw [hf]
    exact ⟨fun _ _ => elem_encode_rounds t _ x free, fun h => absurd h hr, fun _ h => absurd h hz, fun h => absurd h hr⟩

/-! ### The instructions -/

theorem effectOf_floatArith (t : FloatFmt) (op : FloatOp) (form : Form) (o : Operands) (s : State) (k : Fin 64) :
    (effectOf (sentEntry (.floatArith t op form) o s) s.vp).elem k =
      t.elem (farith t op (firstValue form s o k) (secondValue s o k) (exc (controlWord o)) (choiceDraw o.state.draws k))
        (elemDraw o.state.draws k) := by
  rw [← firstOperand_sentEntry (op := .floatArith t op form) rfl rfl]
  rfl

theorem exec_floatForm {c x : Spec} {i : Instr} {t : FloatFmt} {op : FloatOp} {form : Form} {sps : List Spec}
    (h : (i, t, op, form, sps) ∈ floatForms c x) (s : State) : exec i s = issue (.floatArith t op form) sps s := by
  have hmem : (i, VOp.floatArith t op form, sps) ∈ lengthForms c c x := by
    simp only [lengthForms, List.append_assoc]
    exact List.mem_append_right _ (List.mem_append_right _ (List.mem_append_right _
      (List.mem_append_left _ (List.mem_map_of_mem h))))
  exact (exec_lengthForm hmem s).1

/-- Settles O14: issue executes the instruction; `elem_farith_outcome` says what an active element leaves and raises,
`Runs.recorded_operated` what of that is recorded. -/
theorem floatArithmetic : Obligations.FloatArithmetic := by
  intro c x i t op form sps s o hmem hruns
  obtain ⟨types, hactive, hinactive, hrecorded⟩ := hruns.recorded_operated rfl
  refine ⟨operatedState (.floatArith t op form) o s, types, (exec_floatForm hmem s).trans (hruns.issue_operated rfl),
    operatedState_onlyVp _ o s, executed_onlyResults (sentEntry (.floatArith t op form) o s) s.vp rfl rfl rfl VOp.noConfusion,
    hruns.otherElementsKeep_operated rfl rfl rfl, fun k hk => ?_, hinactive, hrecorded⟩
  rw [hruns.resultOf_operated rfl rfl rfl hk, hactive k hk, effectOf_floatArith]
  exact elem_farith_outcome t op _ _ _ _ _

end Sys2Proof.Machine
end

section
/-! The patterns of the floating formats (R271 to R274): the fields of a pattern as numbers, and the fields of a packed one. -/

namespace Sys2Proof.Machine

theorem toNat_append_eq_add {n m : ℕ} (x : BitVec n) (y : BitVec m) : (x ++ y).toNat = x.toNat * 2 ^ m + y.toNat := by
  rw [BitVec.toNat_append, ← Nat.shiftLeft_add_eq_or_of_lt y.isLt, Nat.shiftLeft_eq]

theorem toNat_extractLsb'_eq_div {w : ℕ} (start len : ℕ) (x : BitVec w) :
    (x.extractLsb' start len).toNat = x.toNat / 2 ^ start % 2 ^ len := by
  rw [BitVec.extractLsb'_toNat, Nat.shiftRight_eq_div_pow]

namespace FloatFmt

/-- The fraction bits that the first word holds (R271 to R273). -/
def topBits : FloatFmt → ℕ
  | .f | .d => 7
  | .g => 4

/-- The fraction bits in the words above the first (R271 to R273). -/
def lowBits : FloatFmt → ℕ
  | .f => 16
  | .d | .g => 48

/-- The words above the first hold the fraction's low part with its most significant word first (R271 to R273). -/
def swapWords : FloatFmt → ℕ → ℕ
  | .f, y => y % 2 ^ 16
  | .d, y | .g, y => y % 2 ^ 16 * 2 ^ 32 + y / 2 ^ 16 % 2 ^ 16 * 2 ^ 16 + y / 2 ^ 32 % 2 ^ 16

theorem swapWords_lt (t : FloatFmt) (y : ℕ) : t.swapWords y < 2 ^ t.lowBits := by
  cases t <;> simp only [swapWords, lowBits] <;> omega

theorem three_words {a b c : ℕ} (ha : a < 2 ^ 16) (hb : b < 2 ^ 16) (hc : c < 2 ^ 16) :
    (a * 2 ^ 32 + b * 2 ^ 16 + c) % 2 ^ 16 = c ∧ (a * 2 ^ 32 + b * 2 ^ 16 + c) / 2 ^ 16 % 2 ^ 16 = b ∧
      (a * 2 ^ 32 + b * 2 ^ 16 + c) / 2 ^ 32 % 2 ^ 16 = a :=
  ⟨by omega, by omega, by omega⟩

/-- Reversing three words twice gives them back. -/
theorem swapWords_d_swapWords_d (y : ℕ) : swapWords .d (swapWords .d y) = y % 2 ^ 48 := by
  obtain ⟨hfirst, hsecond, hthird⟩ := three_words (Nat.mod_lt y (Nat.two_pow_pos 16))
    (Nat.mod_lt (y / 2 ^ 16) (Nat.two_pow_pos 16)) (Nat.mod_lt (y / 2 ^ 32) (Nat.two_pow_pos 16))
  have hlast : y / 2 ^ 32 = y / 2 ^ 16 / 2 ^ 16 := by rw [Nat.div_div_eq_div_mul, ← pow_add]
  rw [swapWords, swapWords, hfirst, hsecond, hthird, hlast]
  omega

theorem swapWords_swapWords (t : FloatFmt) (y : ℕ) : t.swapWords (t.swapWords y) = y % 2 ^ t.lowBits := by
  cases t with
  | f => exact Nat.mod_mod _ _
  | d | g => exact swapWords_d_swapWords_d y

theorem expField_eq (t : FloatFmt) (x : Quad) : t.expField x = x.toNat / 2 ^ t.topBits % 2 ^ (15 - t.topBits) := by
  cases t <;> exact toNat_extractLsb'_eq_div ..

theorem fracField_eq (t : FloatFmt) (x : Quad) :
    t.fracField x = x.toNat % 2 ^ t.topBits * 2 ^ t.lowBits + t.swapWords (x.toNat / 2 ^ 16) := by
  cases t <;> simp only [fracField, toNat_append_eq_add, toNat_extractLsb'_eq_div, topBits, lowBits, swapWords]
  case f => rw [pow_zero, Nat.div_one]
  all_goals
    simp only [Nat.div_div_eq_div_mul, pow_zero, Nat.div_one, ← pow_add, Nat.reduceAdd]
    ring

theorem toNat_sign (x : Quad) : (x.getLsbD 15).toNat = x.toNat / 2 ^ 15 % 2 := by
  rw [BitVec.getLsbD, Nat.toNat_testBit]

theorem expField_le (t : FloatFmt) (x : Quad) : t.expField x ≤ t.maxExp := by
  rw [expField_eq]
  cases t <;> simp only [maxExp, topBits] <;> omega

theorem fracField_lt (t : FloatFmt) (x : Quad) : t.fracField x < 2 ^ t.fracBits := by
  have hlow := t.swapWords_lt (x.toNat / 2 ^ 16)
  rw [fracField_eq]
  cases t <;> simp only [fracBits, topBits, lowBits] at hlow ⊢ <;> omega

section
variable (t : FloatFmt) (s : Bool) {e n : ℕ} (he : e ≤ t.maxExp) (hn : n < 2 ^ t.fracBits)
include he hn

/-- The number that a packed pattern is. -/
theorem toNat_pack : (t.pack s e n).toNat =
    t.swapWords n * 2 ^ 16 + (s.toNat * 2 ^ 15 + e * 2 ^ t.topBits + n / 2 ^ t.lowBits) := by
  have hfw : n % 2 ^ 55 = n := Nat.mod_eq_of_lt (by cases t <;> simp only [fracBits] at hn <;> omega)
  have hexp : e % 2 ^ (15 - t.topBits) = e :=
    Nat.mod_eq_of_lt (by cases t <;> simp only [maxExp, topBits] at he ⊢ <;> omega)
  have htop : n / 2 ^ t.lowBits % 2 ^ t.topBits = n / 2 ^ t.lowBits :=
    Nat.mod_eq_of_lt (by cases t <;> simp only [fracBits, topBits, lowBits] at hn ⊢ <;> omega)
  have hs := s.toNat_le
  cases t <;> simp only [topBits, lowBits, swapWords, fracBits, maxExp] at he hn hexp htop ⊢
  case' f => refine (BitVec.toNat_setWidth ..).trans ?_
  case' d => refine (toNat_append_eq_add (m := 1 + 8 + 7) _ _).trans ?_
  case' g => refine (toNat_append_eq_add (m := 1 + 11 + 4) _ _).trans ?_
  all_goals
    simp only [toNat_append_eq_add, toNat_extractLsb'_eq_div, BitVec.toNat_ofNat, BitVec.toNat_ofBool, hfw, hexp, htop,
      pow_zero, Nat.div_one]
    omega

/-- The parts of a packed pattern: the words above the first; in the first the fraction's top, the exponent field, the sign. -/
theorem pack_parts :
    (t.pack s e n).toNat / 2 ^ 16 = t.swapWords n ∧ (t.pack s e n).toNat % 2 ^ t.topBits = n / 2 ^ t.lowBits ∧
      (t.pack s e n).toNat / 2 ^ t.topBits % 2 ^ (15 - t.topBits) = e ∧ (t.pack s e n).toNat / 2 ^ 15 % 2 = s.toNat := by
  have hs := s.toNat_le
  rw [toNat_pack t s he hn]
  generalize t.swapWords n = y
  cases t <;> simp only [maxExp, fracBits, topBits, lowBits] at he hn ⊢ <;> omega

theorem expField_pack : t.expField (t.pack s e n) = e := by
  obtain ⟨-, -, hexp, -⟩ := pack_parts t s he hn
  rw [expField_eq, hexp]

theorem fracField_pack : t.fracField (t.pack s e n) = n := by
  obtain ⟨hhigh, htop, -, -⟩ := pack_parts t s he hn
  rw [fracField_eq, hhigh, htop, swapWords_swapWords, Nat.div_add_mod']

theorem sign_pack : (t.pack s e n).getLsbD 15 = s := by
  obtain ⟨-, -, -, hsign⟩ := pack_parts t s he hn
  rw [BitVec.getLsbD, Nat.testBit_eq_decide_div_mod_eq, hsign]
  cases s <;> rfl

end

/-- An F pattern with zeros above its longword is the D pattern of its sign, its exponent and its fraction with zeros below
(R272, R328). -/
theorem pack_d_of_f (x : Quad) :
    pack .d (x.getLsbD 15) (expField .f x) (fracField .f x * 2 ^ 32) = x.lo.zeroExtend 64 := by
  have hlt : fracField .f x < 2 ^ 23 := fracField_lt .f x
  have hfrac : fracField .f x = x.toNat % 2 ^ 7 * 2 ^ 16 + x.toNat / 2 ^ 16 % 2 ^ 16 := fracField_eq .f x
  have hexp : expField .f x = x.toNat / 2 ^ 7 % 2 ^ 8 := expField_eq .f x
  have hlo : (x.lo.zeroExtend 64).toNat = x.toNat % 2 ^ 32 := by
    rw [BitVec.toNat_setWidth, toNat_extractLsb'_eq_div, pow_zero, Nat.div_one]
    exact Nat.mod_eq_of_lt (by omega)
  have hsign : x.toNat / 2 ^ 15 = x.toNat / 2 ^ 7 / 2 ^ 8 := by rw [Nat.div_div_eq_div_mul, ← pow_add]
  have hword : x.toNat / 2 ^ 16 = x.toNat / 2 ^ 7 / 2 ^ 8 / 2 := by rw [← hsign, Nat.div_div_eq_div_mul, ← pow_succ]
  have hswap : swapWords .d (fracField .f x * 2 ^ 32) = x.toNat / 2 ^ 16 % 2 ^ 16 := by
    simp only [swapWords]
    omega
  have htop : fracField .f x * 2 ^ 32 / 2 ^ 48 = x.toNat % 2 ^ 7 := by omega
  refine BitVec.eq_of_toNat_eq ?_
  rw [toNat_pack .d _ (expField_le .f x) (show _ < 2 ^ 55 by omega), hlo, hswap, toNat_sign, hexp]
  simp only [topBits, lowBits, htop, hsign, hword]
  omega

end FloatFmt
end Sys2Proof.Machine
end

section
/-! Rounding to nearest (R275): magnitudes of a given precision as exact rationals, and the one that `roundTo` gives. -/

namespace Sys2Proof.Machine

/-! ### Magnitudes of a precision -/

/-- The magnitude of the significand `m` of `p` bits, taken as a fraction, with the exponent `e` (R271 to R273). -/
def magnitude (p m : ℕ) (e : ℤ) : ℚ := m * 2 ^ (e - p)

/-- A significand has `p` bits: as a fraction it lies in one half to one (R275). -/
def Normal (p m : ℕ) : Prop := 2 ^ p ≤ 2 * m ∧ m < 2 ^ p

theorem two_pow_mul_zpow (p : ℕ) (k : ℤ) : (2 : ℚ) ^ p * 2 ^ (k - p) = 2 ^ k := by
  rw [← zpow_natCast, ← zpow_add₀ two_ne_zero, add_sub_cancel]

theorem two_pow_pred_mul_zpow {p : ℕ} (hp : 0 < p) (k : ℤ) : (2 : ℚ) ^ (p - 1) * 2 ^ (k - p) = 2 ^ (k - 1) := by
  have hpow : (2 : ℚ) * 2 ^ (p - 1) = 2 ^ p := mul_pow_sub_one hp.ne' 2
  rw [zpow_sub_one₀ two_ne_zero, ← two_pow_mul_zpow p k, ← hpow]
  ring

theorem magnitude_bounds {p m : ℕ} (h : Normal p m) (e : ℤ) :
    (2 : ℚ) ^ (e - 1) ≤ magnitude p m e ∧ magnitude p m e < 2 ^ e := by
  have hlow : (2 : ℚ) ^ p ≤ 2 * m := by exact_mod_cast h.1
  have hhigh : (m : ℚ) < 2 ^ p := by exact_mod_cast h.2
  have hulp : (0 : ℚ) < 2 ^ (e - p) := by positivity
  rw [zpow_sub_one₀ two_ne_zero, ← two_pow_mul_zpow p e, magnitude]
  refine ⟨?_, mul_lt_mul_of_pos_right hhigh hulp⟩
  linarith [mul_le_mul_of_nonneg_right hlow hulp.le]

theorem magnitude_pos {p m : ℕ} (h : Normal p m) (e : ℤ) : 0 < magnitude p m e :=
  (zpow_pos two_pos _).trans_le (magnitude_bounds h e).1

theorem normal_least {p : ℕ} (hp : 0 < p) : Normal p (2 ^ (p - 1)) :=
  ⟨(mul_pow_sub_one hp.ne' 2).ge, Nat.pow_lt_pow_right Nat.one_lt_two (Nat.sub_one_lt hp.ne')⟩

theorem normal_greatest {p : ℕ} (hp : 0 < p) : Normal p (2 ^ p - 1) := by
  have hle : 2 ^ 1 ≤ 2 ^ p := Nat.pow_le_pow_right Nat.two_pos hp
  exact ⟨by omega, by omega⟩

theorem magnitude_least {p : ℕ} (hp : 0 < p) (M : ℤ) : magnitude p (2 ^ (p - 1)) (M + 1) = 2 ^ M := by
  rw [magnitude, Nat.cast_pow, Nat.cast_two, two_pow_pred_mul_zpow hp, add_sub_cancel_right]

theorem magnitude_greatest (p : ℕ) (M : ℤ) : magnitude p (2 ^ p - 1) M = 2 ^ M - 2 ^ (M - p) := by
  rw [magnitude, Nat.cast_pred (Nat.two_pow_pos p), sub_mul, one_mul, Nat.cast_pow, Nat.cast_two, two_pow_mul_zpow]

/-- Below `2^M` no magnitude is larger than that of the significand of all ones. -/
theorem magnitude_le {p m : ℕ} (h : Normal p m) {e M : ℤ} (he : e ≤ M) : magnitude p m e ≤ 2 ^ M - 2 ^ (M - p) := by
  have hm : m ≤ 2 ^ p - 1 := Nat.le_sub_one_of_lt h.2
  rw [← magnitude_greatest]
  exact mul_le_mul (Nat.cast_le.mpr hm) (zpow_le_zpow_right₀ one_le_two (by omega)) (by positivity) (Nat.cast_nonneg _)

/-- A magnitude has one significand and one exponent. -/
theorem magnitude_inj {p m m' : ℕ} {e e' : ℤ} (h : Normal p m) (h' : Normal p m')
    (heq : magnitude p m e = magnitude p m' e') : m = m' ∧ e = e' := by
  obtain ⟨hlow, hhigh⟩ := magnitude_bounds h e
  obtain ⟨hlow', hhigh'⟩ := magnitude_bounds h' e'
  have hle : e - 1 < e' := (zpow_lt_zpow_iff_right₀ one_lt_two).mp (hlow.trans_lt (heq ▸ hhigh'))
  have hge : e' - 1 < e := (zpow_lt_zpow_iff_right₀ one_lt_two).mp (hlow'.trans_lt (heq ▸ hhigh))
  obtain rfl : e = e' := by omega
  refine ⟨?_, rfl⟩
  exact_mod_cast mul_right_cancel₀ (zpow_ne_zero _ two_ne_zero) heq

/-- More bits of precision, all zero, leave the magnitude. -/
theorem magnitude_widen (p k m : ℕ) (e : ℤ) : magnitude (p + k) (m * 2 ^ k) e = magnitude p m e := by
  unfold magnitude
  push_cast
  rw [mul_assoc, ← zpow_natCast, ← zpow_add₀ two_ne_zero]
  congr 2
  omega

theorem Normal.widen {p m : ℕ} (h : Normal p m) (k : ℕ) : Normal (p + k) (m * 2 ^ k) := by
  rw [Normal, pow_add, ← mul_assoc]
  exact ⟨Nat.mul_le_mul_right _ h.1, Nat.mul_lt_mul_of_pos_right h.2 (Nat.two_pow_pos k)⟩

/-! ### The leading exponent -/

theorem scalePair_den_pos {d : ℕ} (hd : 0 < d) (a : ℕ) (k : ℤ) : 0 < (scalePair a d k).2 := by
  unfold scalePair
  split
  exacts [hd, Nat.mul_pos hd (Nat.two_pow_pos _)]

theorem scalePair_div (a d : ℕ) (k : ℤ) :
    ((scalePair a d k).1 : ℚ) / (scalePair a d k).2 = (a : ℚ) / d * 2 ^ k := by
  unfold scalePair
  split_ifs with hk
  · obtain ⟨n, rfl⟩ := Int.eq_ofNat_of_zero_le hk
    push_cast
    rw [Int.toNat_natCast, zpow_natCast, div_mul_eq_mul_div]
  · obtain ⟨n, hn⟩ := Int.eq_ofNat_of_zero_le (by omega : 0 ≤ -k)
    rw [hn, Int.toNat_natCast, ← neg_neg k, hn, zpow_neg, zpow_natCast]
    push_cast
    rw [div_mul_eq_div_div, div_eq_mul_inv _ ((2 : ℚ) ^ n)]

/-- The exponent that `roundTo` gives a value before rounding (R275). -/
def Ratio.leadExp (x : Ratio) : ℤ :=
  let k : ℤ := (Nat.log2 x.num.natAbs : ℤ) - (Nat.log2 x.den : ℤ)
  let low := scalePair x.num.natAbs x.den (-k)
  if low.2 ≤ low.1 then k + 1 else k

/-- The significand of `p` bits that `roundTo` gives a value, before one that has grown to a power of two is made shorter. -/
def Ratio.significand (p : ℕ) (x : Ratio) : ℕ := ⌊|x.toRat| * 2 ^ ((p : ℤ) - x.leadExp) + 1 / 2⌋₊

theorem Ratio.abs_toRat (x : Ratio) : |x.toRat| = (x.num.natAbs : ℚ) / x.den := by
  rw [toRat, abs_div, Nat.abs_cast, ← Int.cast_abs, Int.abs_eq_natAbs, Int.cast_natCast]

theorem log2_bounds {n : ℕ} (hn : n ≠ 0) : (2 : ℚ) ^ Nat.log2 n ≤ n ∧ (n : ℚ) < 2 * 2 ^ Nat.log2 n := by
  constructor
  · exact_mod_cast Nat.log2_self_le hn
  · rw [← pow_succ']
    exact_mod_cast Nat.lt_log2_self

section
variable {x : Ratio} (hd : 0 < x.den) (hn : x.num ≠ 0)
include hd hn

theorem Ratio.leadExp_bounds : (2 : ℚ) ^ (x.leadExp - 1) ≤ |x.toRat| ∧ |x.toRat| < 2 ^ x.leadExp := by
  obtain ⟨hnum, hnum'⟩ := log2_bounds (Int.natAbs_ne_zero.mpr hn)
  obtain ⟨hden, hden'⟩ := log2_bounds hd.ne'
  have hd' : (0 : ℚ) < x.den := by exact_mod_cast hd
  set k : ℤ := (Nat.log2 x.num.natAbs : ℤ) - (Nat.log2 x.den : ℤ) with hk
  have hpow : (2 : ℚ) ^ k = 2 ^ Nat.log2 x.num.natAbs / 2 ^ Nat.log2 x.den := by
    rw [hk, zpow_sub₀ two_ne_zero, zpow_natCast, zpow_natCast]
  have hlow : (2 : ℚ) ^ (k - 1) ≤ |x.toRat| := by
    rw [abs_toRat, zpow_sub_one₀ two_ne_zero, hpow, ← div_eq_mul_inv, div_div, div_le_div_iff₀ (by positivity) hd']
    nlinarith
  have hhigh : |x.toRat| < 2 ^ (k + 1) := by
    rw [abs_toRat, zpow_add_one₀ two_ne_zero, hpow, div_mul_eq_mul_div, div_lt_div_iff₀ hd' (by positivity)]
    nlinarith
  have htest :
      (scalePair x.num.natAbs x.den (-k)).2 ≤ (scalePair x.num.natAbs x.den (-k)).1 ↔ (2 : ℚ) ^ k ≤ |x.toRat| := by
    have hpos : (0 : ℚ) < (scalePair x.num.natAbs x.den (-k)).2 := by exact_mod_cast scalePair_den_pos hd _ _
    rw [← Nat.cast_le (α := ℚ), ← one_le_div hpos, scalePair_div, ← abs_toRat, zpow_neg, ← div_eq_mul_inv,
      one_le_div (by positivity)]
  have hlead : x.leadExp = if (2 : ℚ) ^ k ≤ |x.toRat| then k + 1 else k := if_congr htest rfl rfl
  rw [hlead]
  split_ifs with h
  · exact ⟨by rwa [add_sub_cancel_right], hhigh⟩
  · exact ⟨hlow, not_le.mp h⟩

/-- The scaled magnitude that `roundTo` rounds to an integer has `p` bits before its point. -/
theorem Ratio.scaled_bounds (p : ℕ) :
    (2 : ℚ) ^ p ≤ 2 * (|x.toRat| * 2 ^ ((p : ℤ) - x.leadExp)) ∧ |x.toRat| * 2 ^ ((p : ℤ) - x.leadExp) < 2 ^ p := by
  obtain ⟨hlow, hhigh⟩ := leadExp_bounds hd hn
  have hulp : (0 : ℚ) < 2 ^ ((p : ℤ) - x.leadExp) := by positivity
  have hpow : (2 : ℚ) ^ p = 2 ^ x.leadExp * 2 ^ ((p : ℤ) - x.leadExp) := by
    rw [← zpow_natCast, ← zpow_add₀ two_ne_zero, add_sub_cancel]
  rw [hpow]
  constructor
  · rw [← mul_assoc]
    refine mul_le_mul_of_nonneg_right ?_ hulp.le
    rw [zpow_sub_one₀ two_ne_zero] at hlow
    linarith
  · exact mul_lt_mul_of_pos_right hhigh hulp

end

/-! ### Being nearest -/

/-- `u` is no nearer to `v` than `r` is, and where it is as near it is no larger (R275). -/
def NoBetter (v r u : ℚ) : Prop := |r - v| ≤ |u - v| ∧ (|r - v| = |u - v| → u ≤ r)

theorem NoBetter.scale {v r u c : ℚ} (h : NoBetter v r u) (hc : 0 < c) : NoBetter (v * c) (r * c) (u * c) := by
  unfold NoBetter
  rw [← sub_mul, ← sub_mul, abs_mul, abs_mul, abs_of_pos hc, mul_le_mul_iff_left₀ hc, mul_le_mul_iff_left₀ hc,
    mul_left_inj' hc.ne']
  exact h

theorem NoBetter.of_below {v r u w : ℚ} (h : NoBetter v r w) (hwv : w ≤ v) (huw : u < w) : NoBetter v r u := by
  have hfarther : |r - v| < |u - v| := by
    refine h.1.trans_lt ?_
    rw [abs_of_nonpos (by linarith), abs_of_neg (by linarith)]
    linarith
  exact ⟨hfarther.le, fun heq => absurd heq hfarther.ne⟩

/-- Rounding to an integer, ties away from zero, gives the nearest, and of two equally near the larger (R275). -/
theorem noBetter_floor_add_half {s : ℚ} (hs : 0 ≤ s) (z : ℤ) : NoBetter s ⌊s + 1 / 2⌋₊ z := by
  have hle : (⌊s + 1 / 2⌋₊ : ℚ) ≤ s + 1 / 2 := Nat.floor_le (by positivity)
  have hlt : s + 1 / 2 < (⌊s + 1 / 2⌋₊ : ℚ) + 1 := Nat.lt_floor_add_one _
  unfold NoBetter
  generalize ⌊s + 1 / 2⌋₊ = q at hle hlt ⊢
  rcases lt_trichotomy z q with hz | rfl | hz
  · have hz' : (z : ℚ) + 1 ≤ q := by exact_mod_cast hz
    rw [abs_of_nonpos (by linarith : (z : ℚ) - s ≤ 0)]
    exact ⟨abs_le.mpr ⟨by linarith, by linarith⟩, fun _ => by linarith⟩
  · exact ⟨le_rfl, fun _ => le_rfl⟩
  · have hz' : (q : ℚ) + 1 ≤ z := by exact_mod_cast hz
    rw [abs_of_nonneg (by linarith : 0 ≤ (z : ℚ) - s)]
    have hcloser : |(q : ℚ) - s| < z - s := abs_lt.mpr ⟨by linarith, by linarith⟩
    exact ⟨hcloser.le, fun h => absurd h hcloser.ne⟩

/-! ### What `roundTo` gives -/

theorem roundTo_eq (p : ℕ) {x : Ratio} (hd : 0 < x.den) :
    roundTo p x =
      if x.significand p = 2 ^ p then ⟨decide (x.num < 0), x.leadExp + 1, 2 ^ (p - 1)⟩
      else ⟨decide (x.num < 0), x.leadExp, x.significand p⟩ := by
  have hsig : x.significand p =
      (let scaled := scalePair x.num.natAbs x.den ((p : ℤ) - x.leadExp)
       (2 * scaled.1 + scaled.2) / (2 * scaled.2)) := by
    have hpos : ((scalePair x.num.natAbs x.den ((p : ℤ) - x.leadExp)).2 : ℚ) ≠ 0 := by
      exact_mod_cast (scalePair_den_pos hd _ _).ne'
    rw [Ratio.significand, Ratio.abs_toRat, ← scalePair_div, ← Nat.floor_div_eq_div (K := ℚ)]
    congr 1
    push_cast
    field_simp
  rw [hsig]
  rfl

theorem roundTo_neg (p : ℕ) {x : Ratio} (hd : 0 < x.den) : (roundTo p x).neg = decide (x.num < 0) := by
  rw [roundTo_eq p hd]
  split <;> rfl

/-- Making the significand shorter leaves the magnitude. -/
theorem roundTo_magnitude {p : ℕ} (hp : 0 < p) {x : Ratio} (hd : 0 < x.den) :
    magnitude p (roundTo p x).mant (roundTo p x).exp = magnitude p (x.significand p) x.leadExp := by
  rw [roundTo_eq p hd]
  split_ifs with h
  · obtain ⟨n, rfl⟩ := Nat.exists_eq_add_of_le' hp
    rw [h, magnitude, magnitude, Nat.add_sub_cancel, add_sub_right_comm, zpow_add_one₀ two_ne_zero]
    push_cast
    ring
  · rfl

section
variable {p : ℕ} (hp : 0 < p) {x : Ratio} (hd : 0 < x.den) (hn : x.num ≠ 0)
include hp hd hn

theorem roundTo_normal : Normal p (roundTo p x).mant := by
  obtain ⟨hlow, hhigh⟩ := Ratio.scaled_bounds hd hn p
  have hpow : (2 : ℚ) * 2 ^ (p - 1) = 2 ^ p := mul_pow_sub_one hp.ne' 2
  have hle : 2 ^ (p - 1) ≤ x.significand p := Nat.le_floor (by push_cast; linarith)
  have hlt : x.significand p < 2 ^ p + 1 := (Nat.floor_lt (by positivity)).mpr (by push_cast; linarith)
  rw [roundTo_eq p hd]
  split_ifs with hcarry
  · exact normal_least hp
  · exact ⟨(normal_least hp).1.trans (Nat.mul_le_mul_left 2 hle), lt_of_le_of_ne (Nat.lt_succ_iff.mp hlt) hcarry⟩

/-- `roundTo` gives the nearest magnitude of its precision, and of two equally near the larger (R275). -/
theorem roundTo_nearest {m : ℕ} (hm : m = 0 ∨ Normal p m) (e : ℤ) :
    NoBetter |x.toRat| (magnitude p (roundTo p x).mant (roundTo p x).exp) (magnitude p m e) := by
  have hulp : (0 : ℚ) < 2 ^ (x.leadExp - p) := by positivity
  have hv : |x.toRat| = |x.toRat| * 2 ^ ((p : ℤ) - x.leadExp) * 2 ^ (x.leadExp - p) := by
    rw [mul_assoc, ← zpow_add₀ two_ne_zero, sub_add_sub_cancel, sub_self, zpow_zero, mul_one]
  have hs : 0 ≤ |x.toRat| * 2 ^ ((p : ℤ) - x.leadExp) := by positivity
  have hstep (z : ℤ) : NoBetter |x.toRat| (magnitude p (x.significand p) x.leadExp) (z * 2 ^ (x.leadExp - p)) :=
    hv ▸ (noBetter_floor_add_half hs z).scale hulp
  rw [roundTo_magnitude hp hd]
  rcases hm with rfl | hm
  · simpa [magnitude] using hstep 0
  rcases le_or_gt x.leadExp e with he | he
  · obtain ⟨n, hshift⟩ := Int.eq_ofNat_of_zero_le (sub_nonneg.mpr he)
    have hu : magnitude p m e = ((m * 2 ^ n : ℤ) : ℚ) * 2 ^ (x.leadExp - p) := by
      rw [magnitude, ← sub_add_sub_cancel e x.leadExp, hshift, zpow_add₀ two_ne_zero]
      push_cast
      rw [mul_assoc, zpow_natCast]
    rw [hu]
    exact hstep _
  · have hbelow : magnitude p m e < 2 ^ (x.leadExp - 1) :=
      (magnitude_bounds hm e).2.trans_le (zpow_le_zpow_right₀ one_le_two (by omega))
    have hleast : (2 : ℚ) ^ (x.leadExp - 1) = ((2 ^ (p - 1) : ℤ) : ℚ) * 2 ^ (x.leadExp - p) := by
      rw [← two_pow_pred_mul_zpow hp]
      push_cast
      rfl
    obtain ⟨hlead, -⟩ := Ratio.leadExp_bounds hd hn
    exact NoBetter.of_below (hleast ▸ hstep (2 ^ (p - 1))) hlead hbelow

/-- A value that is a magnitude of its precision is rounded to itself. -/
theorem roundTo_exact {m : ℕ} (hm : Normal p m) {e : ℤ} (hx : |x.toRat| = magnitude p m e) :
    (roundTo p x).mant = m ∧ (roundTo p x).exp = e := by
  obtain ⟨hnear, -⟩ := roundTo_nearest hp hd hn (.inr hm) e
  rw [hx, sub_self, abs_zero] at hnear
  exact magnitude_inj (roundTo_normal hp hd hn) hm (sub_eq_zero.mp (abs_nonpos_iff.mp hnear))

/-- Where the exponent after rounding exceeds `M`: from halfway between the largest magnitude below `2^M` and `2^M` on. -/
theorem roundTo_exp_gt_iff (M : ℤ) :
    M < (roundTo p x).exp ↔ 2 ^ M * (1 - 2 ^ (-((p : ℤ) + 1))) ≤ |x.toRat| := by
  have hr := roundTo_normal hp hd hn
  obtain ⟨hlow, -⟩ := magnitude_bounds hr (roundTo p x).exp
  have hulp : (0 : ℚ) < 2 ^ (M - p) := by positivity
  have hhalf : (2 : ℚ) ^ M * (1 - 2 ^ (-((p : ℤ) + 1))) = 2 ^ M - 2 ^ (M - p) / 2 := by
    rw [mul_sub, mul_one, ← zpow_add₀ two_ne_zero, ← sub_eq_add_neg, ← sub_sub, zpow_sub_one₀ two_ne_zero,
      ← div_eq_mul_inv]
  obtain ⟨hnear, htie⟩ := roundTo_nearest hp hd hn (.inr (normal_least hp)) (M + 1)
  obtain ⟨hnear', -⟩ := roundTo_nearest hp hd hn (.inr (normal_greatest hp)) M
  rw [magnitude_least hp] at hnear htie
  rw [magnitude_greatest] at hnear'
  rw [hhalf]
  generalize hv : |x.toRat| = v at hnear htie hnear' ⊢
  generalize hR : magnitude p (roundTo p x).mant (roundTo p x).exp = R at hlow hnear htie hnear'
  constructor
  · intro hM
    have hge : (2 : ℚ) ^ M ≤ R := (zpow_le_zpow_right₀ one_le_two (by omega)).trans hlow
    by_contra! hlt
    have hcloser : |2 ^ M - 2 ^ (M - p) - v| < R - v := abs_lt.mpr ⟨by linarith, by linarith⟩
    exact absurd hnear' (not_le.mpr (hcloser.trans_le (le_abs_self _)))
  · intro hge
    by_contra! hM
    have hle : R ≤ 2 ^ M - 2 ^ (M - p) := hR ▸ magnitude_le hr hM
    have hdist : |R - v| = v - R := by rw [abs_sub_comm, abs_of_pos (by linarith)]
    have hcloser : |2 ^ M - v| ≤ v - R := abs_le.mpr ⟨by linarith, by linarith⟩
    have := htie (hnear.antisymm (hcloser.trans_eq hdist.symm))
    linarith

end
end Sys2Proof.Machine
end

section
/-! Floating results (R272, R275, R276, R328): the values of patterns, what `encode` answers, and the statements on rounding,
range and exactness. -/

namespace Sys2Proof.Machine

/-! ### Signs -/

/-- A magnitude with a sign. -/
def signed (neg : Bool) (v : ℚ) : ℚ := if neg then -v else v

theorem signed_sub (neg : Bool) (v w : ℚ) : |signed neg v - signed neg w| = |v - w| := by
  cases neg with
  | false => rfl
  | true =>
    rw [signed, signed, if_pos rfl, if_pos rfl, neg_sub_neg]
    exact abs_sub_comm w v

theorem abs_signed (neg : Bool) (v : ℚ) : |signed neg v| = |v| := by
  cases neg with
  | false => rfl
  | true => exact abs_neg v

theorem Ratio.toRat_neg_iff {x : Ratio} (hd : 0 < x.den) : x.toRat < 0 ↔ x.num < 0 := by
  rw [toRat, div_lt_iff₀ (by exact_mod_cast hd), zero_mul, Int.cast_lt_zero]

theorem Ratio.signed_abs_toRat {x : Ratio} (hd : 0 < x.den) : signed (decide (x.num < 0)) |x.toRat| = x.toRat := by
  unfold signed
  split_ifs with h <;> rw [decide_eq_true_eq, ← toRat_neg_iff hd] at h
  · rw [abs_of_neg h, neg_neg]
  · exact abs_of_nonneg (not_lt.mp h)

/-- A nearest magnitude, with the sign of the value, is a nearest value. -/
theorem NoBetter.with_sign {x r y : ℚ} {neg : Bool} (hr : 0 ≤ r) (hx : signed neg |x| = x) (h : NoBetter |x| r |y|) :
    |signed neg r - x| ≤ |y - x| ∧ (|signed neg r - x| = |y - x| → |y| ≤ |signed neg r|) := by
  have hdist : |signed neg r - x| = abs (r - |x|) := by
    conv_lhs => rw [← hx]
    exact signed_sub neg r |x|
  have hy := abs_abs_sub_abs_le y x
  rw [hdist, abs_signed, abs_of_nonneg hr]
  exact ⟨h.1.trans hy, fun heq => h.2 (h.1.antisymm (heq ▸ hy))⟩

/-! ### Values of patterns -/

theorem Ratio.toRat_ofScaled (m k : ℤ) : (Ratio.ofScaled m k).toRat = m * 2 ^ k := by
  unfold ofScaled toRat
  split_ifs with hk
  · obtain ⟨n, rfl⟩ := Int.eq_ofNat_of_zero_le hk
    simp
  · obtain ⟨n, hn⟩ := Int.eq_ofNat_of_zero_le (by omega : 0 ≤ -k)
    rw [hn, Int.toNat_natCast, ← neg_neg k, hn, zpow_neg, zpow_natCast, ← div_eq_mul_inv]
    push_cast
    rfl

theorem Ratio.den_ofScaled_pos (m k : ℤ) : 0 < (Ratio.ofScaled m k).den := by
  unfold ofScaled
  split
  exacts [Nat.one_pos, Nat.two_pow_pos _]

namespace FloatFmt

/-- The hidden bit and a fraction are a significand of the format's precision (R271 to R273). -/
theorem normal_iff (t : FloatFmt) (m : ℕ) : Normal t.prec m ↔ ∃ n < 2 ^ t.fracBits, m = 2 ^ t.fracBits + n := by
  rw [Normal, prec, pow_succ']
  constructor
  · rintro ⟨hlow, hhigh⟩
    exact ⟨m - 2 ^ t.fracBits, by omega, by omega⟩
  · rintro ⟨n, hn, rfl⟩
    omega

/-- The significand of a pattern, with its hidden bit (R271 to R273). -/
def mantissa (t : FloatFmt) (x : Quad) : ℕ := 2 ^ t.fracBits + t.fracField x

theorem normal_mantissa (t : FloatFmt) (x : Quad) : Normal t.prec (t.mantissa x) :=
  (t.normal_iff _).mpr ⟨_, t.fracField_lt x, rfl⟩

theorem value_of_expField_zero {t : FloatFmt} {x : Quad} (h : t.expField x = 0) : t.value x = ⟨0, 1⟩ := if_pos h

theorem value_of_expField_ne_zero {t : FloatFmt} {x : Quad} (h : t.expField x ≠ 0) :
    t.value x = Ratio.ofScaled (if x.getLsbD 15 then -(t.mantissa x : ℤ) else t.mantissa x)
      (t.expField x - t.bias - t.prec) := if_neg h

theorem den_value_pos (t : FloatFmt) (x : Quad) : 0 < (t.value x).den := by
  by_cases h : t.expField x = 0
  · rw [value_of_expField_zero h]
    exact Nat.one_pos
  · rw [value_of_expField_ne_zero h]
    exact Ratio.den_ofScaled_pos _ _

theorem toRat_value {t : FloatFmt} {x : Quad} (h : t.expField x ≠ 0) :
    (t.value x).toRat = signed (x.getLsbD 15) (magnitude t.prec (t.mantissa x) (t.expField x - t.bias)) := by
  rw [value_of_expField_ne_zero h, Ratio.toRat_ofScaled, magnitude, signed]
  cases x.getLsbD 15 <;> simp

/-- The values of a format are magnitudes of its precision, and zero (R271 to R274). -/
theorem abs_toRat_value (t : FloatFmt) (x : Quad) :
    ∃ m e, (m = 0 ∨ Normal t.prec m) ∧ |(t.value x).toRat| = magnitude t.prec m e := by
  by_cases h : t.expField x = 0
  · refine ⟨0, 0, .inl rfl, ?_⟩
    simp [value_of_expField_zero h, magnitude, Ratio.toRat]
  · refine ⟨t.mantissa x, t.expField x - t.bias, .inr (t.normal_mantissa x), ?_⟩
    rw [toRat_value h, abs_signed, abs_of_pos (magnitude_pos (t.normal_mantissa x) _)]

theorem expField_zero (t : FloatFmt) : t.expField 0 = 0 := by
  cases t <;> rfl

section
variable (t : FloatFmt) (s : Bool) {e m : ℕ} (he : e ≤ t.maxExp) (hm : Normal t.prec m)
include he hm

theorem expField_pack_normal : t.expField (t.pack s e (m - 2 ^ t.fracBits)) = e := by
  obtain ⟨n, hn, rfl⟩ := (t.normal_iff m).mp hm
  rw [Nat.add_sub_cancel_left, t.expField_pack s he hn]

/-- What a packed pattern stands for. -/
theorem toRat_value_pack (hpos : e ≠ 0) :
    (t.value (t.pack s e (m - 2 ^ t.fracBits))).toRat = signed s (magnitude t.prec m (e - t.bias)) := by
  have hexp := t.expField_pack_normal s he hm
  obtain ⟨n, hn, rfl⟩ := (t.normal_iff m).mp hm
  rw [toRat_value (by rwa [hexp]), hexp, mantissa, Nat.add_sub_cancel_left, t.sign_pack s he hn, t.fracField_pack s he hn]

theorem pack_ne_zero (hpos : e ≠ 0) : t.pack s e (m - 2 ^ t.fracBits) ≠ 0 := by
  intro hzero
  have hexp := t.expField_pack_normal s he hm
  rw [hzero] at hexp
  exact hpos (hexp ▸ t.expField_zero)

end

/-! ### What encoding answers -/

theorem prec_pos (t : FloatFmt) : 0 < t.prec := Nat.succ_pos _

section
variable (t : FloatFmt) {x : Ratio} (exc : Bool) (hn : x.num ≠ 0)
include hn

theorem encode_overflow (h : (t.maxExp : ℤ) - t.bias < (roundTo t.prec x).exp) :
    t.encode x exc = .error AexSet.overflow :=
  (if_neg hn).trans (if_pos (sub_lt_iff_lt_add.mp h))

theorem encode_underflow (h : (roundTo t.prec x).exp ≤ -t.bias) :
    t.encode x exc = if exc then .error AexSet.underflow else .ok 0 := by
  refine (if_neg hn).trans ((if_neg ?_).trans (if_pos ?_)) <;> omega

theorem encode_in_range (hlow : -(t.bias : ℤ) < (roundTo t.prec x).exp)
    (hhigh : (roundTo t.prec x).exp ≤ (t.maxExp : ℤ) - t.bias) :
    ∃ e : ℕ, e ≠ 0 ∧ e ≤ t.maxExp ∧ (roundTo t.prec x).exp = e - t.bias ∧
      t.encode x exc = .ok (t.pack (roundTo t.prec x).neg e ((roundTo t.prec x).mant - 2 ^ t.fracBits)) := by
  refine ⟨((roundTo t.prec x).exp + t.bias).toNat, by omega, by omega, by omega, ?_⟩
  refine (if_neg hn).trans ((if_neg ?_).trans (if_neg ?_)) <;> omega

end

/-- What is encoded as a pattern other than zero is the rounded value, in the range of the exponent field (R276). -/
theorem encode_eq_ok {t : FloatFmt} {x : Ratio} {exc : Bool} {q : Quad} (h : t.encode x exc = .ok q) (hq : q ≠ 0) :
    x.num ≠ 0 ∧ ∃ e : ℕ, e ≠ 0 ∧ e ≤ t.maxExp ∧ (roundTo t.prec x).exp = e - t.bias ∧
      q = t.pack (roundTo t.prec x).neg e ((roundTo t.prec x).mant - 2 ^ t.fracBits) := by
  have hn : x.num ≠ 0 := fun hzero => hq (Except.ok.inj (h.symm.trans (if_pos hzero)))
  refine ⟨hn, ?_⟩
  rcases lt_or_ge ((t.maxExp : ℤ) - t.bias) (roundTo t.prec x).exp with hover | hhigh
  · rw [t.encode_overflow exc hn hover] at h
    cases h
  rcases le_or_gt (roundTo t.prec x).exp (-t.bias) with hunder | hlow
  · rw [t.encode_underflow exc hn hunder] at h
    split at h
    · cases h
    · exact absurd (Except.ok.inj h).symm hq
  · obtain ⟨e, hpos, he, hexp, hok⟩ := t.encode_in_range exc hn hlow hhigh
    exact ⟨e, hpos, he, hexp, Except.ok.inj (h.symm.trans hok)⟩

/-- A magnitude of the format is encoded as the pattern that holds it. -/
theorem encode_magnitude {t : FloatFmt} {x : Ratio} (hd : 0 < x.den) (exc : Bool) {m e : ℕ} (hm : Normal t.prec m)
    (hpos : e ≠ 0) (he : e ≤ t.maxExp) (hx : |x.toRat| = magnitude t.prec m (e - t.bias)) :
    t.encode x exc = .ok (t.pack (decide (x.num < 0)) e (m - 2 ^ t.fracBits)) := by
  have hn : x.num ≠ 0 := by
    intro hzero
    have := magnitude_pos hm (e - t.bias)
    rw [← hx, Ratio.toRat, hzero] at this
    simp at this
  obtain ⟨hmant, hexp⟩ := roundTo_exact t.prec_pos hd hn hm hx
  obtain ⟨e', -, -, hexp', hok⟩ := t.encode_in_range (x := x) exc hn (by omega) (by omega)
  obtain rfl : e' = e := by omega
  rw [hok, hmant, roundTo_neg _ hd]

theorem num_value_neg {t : FloatFmt} {x : Quad} (h : t.expField x ≠ 0) : decide ((t.value x).num < 0) = x.getLsbD 15 := by
  have hpos := magnitude_pos (t.normal_mantissa x) (t.expField x - t.bias)
  rw [Bool.eq_iff_iff, decide_eq_true_eq, ← Ratio.toRat_neg_iff (t.den_value_pos x), toRat_value h]
  cases x.getLsbD 15 with
  | false => exact iff_of_false (not_lt.mpr hpos.le) Bool.false_ne_true
  | true => exact iff_of_true (neg_neg_of_pos hpos) rfl

/-- A pattern with a value other than zero gives its own fields back (R328). -/
theorem encode_value {t : FloatFmt} {x : Quad} (h : t.expField x ≠ 0) (exc : Bool) :
    t.encode (t.value x) exc = .ok (t.pack (x.getLsbD 15) (t.expField x) (t.fracField x)) := by
  have hm := t.normal_mantissa x
  rw [encode_magnitude (t.den_value_pos x) exc hm h (t.expField_le x)
    (by rw [toRat_value h, abs_signed, abs_of_pos (magnitude_pos hm _)]), num_value_neg h, mantissa, Nat.add_sub_cancel_left]

end FloatFmt

/-! ### The statements -/

/-- Settles O58: what is encoded is the rounded value (`encode_eq_ok`), whose magnitude is nearest (`roundTo_nearest`) among those
of the format's precision, and its sign is that of the value. -/
theorem roundingToNearest : Obligations.RoundingToNearest := by
  intro t x exc q hd hencode hq y
  obtain ⟨hn, e, hpos, he, hexp, rfl⟩ := FloatFmt.encode_eq_ok hencode hq
  obtain ⟨m, e', hm, hy⟩ := t.abs_toRat_value y
  have hnormal := roundTo_normal t.prec_pos hd hn
  have hnear := roundTo_nearest t.prec_pos hd hn hm e'
  rw [← hy] at hnear
  rw [t.toRat_value_pack _ he hnormal hpos, ← hexp]
  exact hnear.with_sign (magnitude_pos hnormal _).le (roundTo_neg _ hd ▸ Ratio.signed_abs_toRat hd)

/-- Settles O60: a value of a format is a magnitude of its precision, which is encoded as its own fields (`encode_value`); an F
fraction with zeros below it is the D fraction of the same magnitude. -/
theorem encodingIsExact : Obligations.EncodingIsExact := by
  refine ⟨fun t x exc => ?_, fun x exc h => ?_⟩
  · by_cases h : t.expField x = 0
    · rw [FloatFmt.value_of_expField_zero h]
      refine ⟨0, if_pos rfl, by rw [FloatFmt.value_of_expField_zero t.expField_zero], by cases t <;> rfl⟩
    · have hexp : t.expField (t.pack (x.getLsbD 15) (t.expField x) (t.fracField x)) = t.expField x :=
        t.expField_pack _ (t.expField_le x) (t.fracField_lt x)
      refine ⟨_, FloatFmt.encode_value h exc, ?_, ?_⟩
      · rw [FloatFmt.toRat_value (by rwa [hexp]), FloatFmt.toRat_value h, FloatFmt.mantissa, FloatFmt.mantissa, hexp,
          t.sign_pack _ (t.expField_le x) (t.fracField_lt x), t.fracField_pack _ (t.expField_le x) (t.fracField_lt x)]
      · rw [FloatFmt.isRsvd, hexp, decide_eq_false h, Bool.and_false]
  · have hm := FloatFmt.normal_mantissa .f x
    have hx : |(FloatFmt.value .f x).toRat| =
        magnitude (FloatFmt.prec .d) (FloatFmt.mantissa .f x * 2 ^ 32) (FloatFmt.expField .f x - FloatFmt.bias .d) := by
      rw [FloatFmt.toRat_value h, abs_signed, abs_of_pos (magnitude_pos hm _)]
      exact (magnitude_widen 24 32 _ _).symm
    have hfrac : FloatFmt.mantissa .f x * 2 ^ 32 - 2 ^ FloatFmt.fracBits .d = FloatFmt.fracField .f x * 2 ^ 32 := by
      simp only [FloatFmt.mantissa, FloatFmt.fracBits]
      omega
    rw [FloatFmt.encode_magnitude (t := .d) (FloatFmt.den_value_pos .f x) exc (hm.widen 32) h (FloatFmt.expField_le .f x) hx,
      FloatFmt.num_value_neg h, hfrac, FloatFmt.pack_d_of_f]

/-! ### Range -/

section
variable {a b : Ratio} (ha : 0 < a.den) (hb : 0 < b.den)
include ha hb

theorem Ratio.den_op_pos {op : FloatOp} (hdiv : op = .div → b.num ≠ 0) : 0 < (Ratio.op op a b).den := by
  cases op with
  | add | sub | mul => exact Nat.mul_pos ha hb
  | div => exact Nat.mul_pos ha (Int.natAbs_pos.mpr (hdiv rfl))

theorem Ratio.toRat_add : (Ratio.op .add a b).toRat = a.toRat + b.toRat := by
  simp only [op, toRat]
  push_cast
  field_simp

theorem Ratio.toRat_sub : (Ratio.op .sub a b).toRat = a.toRat - b.toRat := by
  simp only [op, toRat]
  push_cast
  field_simp

end

theorem Ratio.toRat_mul (a b : Ratio) : (Ratio.op .mul a b).toRat = a.toRat * b.toRat := by
  simp only [op, toRat]
  push_cast
  rw [div_mul_div_comm]

theorem Ratio.toRat_div {a b : Ratio} (ha : 0 < a.den) (hnum : b.num ≠ 0) :
    (Ratio.op .div a b).toRat = a.toRat / b.toRat := by
  have hnum' : (b.num : ℚ) ≠ 0 := by exact_mod_cast hnum
  have hsign : (b.num.sign : ℚ) * b.num = (b.num.natAbs : ℚ) := by
    rw [Nat.cast_natAbs]
    exact_mod_cast Int.sign_mul_self_eq_abs b.num
  simp only [op, toRat]
  push_cast
  rw [div_div_div_eq, div_eq_div_iff (by positivity) (by positivity)]
  linear_combination (a.num * b.den * a.den : ℚ) * hsign

/-- Settles O59: the operations are exact one by one; a value is encoded as its rounded exponent says, and `roundTo_exp_gt_iff`
says from which values on that exponent is too large, or large enough. -/
theorem exactResultsAndRange : Obligations.ExactResultsAndRange := by
  refine ⟨fun op a b ha hb hdiv => ⟨Ratio.den_op_pos ha hb hdiv, ?_⟩, fun t x exc hd hn => ?_⟩
  · cases op with
    | add => exact Ratio.toRat_add ha hb
    | sub => exact Ratio.toRat_sub ha hb
    | mul => exact Ratio.toRat_mul a b
    | div => exact Ratio.toRat_div ha (hdiv rfl)
  · intro half high low
    have hhigh : _ ↔ high ≤ |x.toRat| := roundTo_exp_gt_iff t.prec_pos hd hn ((t.maxExp : ℤ) - t.bias)
    have hlow : _ ↔ low ≤ |x.toRat| := roundTo_exp_gt_iff t.prec_pos hd hn (-t.bias)
    have hbelow : |x.toRat| < low ↔ (roundTo t.prec x).exp ≤ -t.bias := by rw [← not_le, ← hlow, not_lt]
    have hfits : |x.toRat| < high ↔ (roundTo t.prec x).exp ≤ (t.maxExp : ℤ) - t.bias := by rw [← not_le, ← hhigh, not_lt]
    rw [← hhigh, ← hlow, hbelow, hfits]
    rcases lt_or_ge ((t.maxExp : ℤ) - t.bias) (roundTo t.prec x).exp with hover | hin
    · have hnot : ¬ (roundTo t.prec x).exp ≤ -t.bias := by omega
      rw [t.encode_overflow exc hn hover]
      exact ⟨iff_of_true rfl hover, fun _ => iff_of_false (by decide) hnot, fun _ h => absurd h hnot,
        fun _ h => absurd hover h.not_gt⟩
    rcases le_or_gt (roundTo t.prec x).exp (-t.bias) with hunder | hout
    · rw [t.encode_underflow exc hn hunder]
      cases exc with
      | false =>
        rw [if_neg Bool.false_ne_true]
        exact ⟨iff_of_false nofun hin.not_gt, nofun, fun _ _ => rfl, fun h => absurd h hunder.not_gt⟩
      | true =>
        rw [if_pos rfl]
        exact ⟨iff_of_false (by decide) hin.not_gt, fun _ => iff_of_true rfl hunder, nofun, fun h => absurd h hunder.not_gt⟩
    · obtain ⟨e, hpos, he, -, hok⟩ := t.encode_in_range exc hn hout hin
      rw [hok]
      exact ⟨iff_of_false nofun hin.not_gt, fun _ => iff_of_false nofun hout.not_ge,
        fun _ h => absurd h hout.not_ge, fun _ _ => ⟨_, rfl, t.pack_ne_zero _ he (roundTo_normal t.prec_pos hd hn) hpos⟩⟩

end Sys2Proof.Machine
end

section
/-! The floating compares on the vector registers (R310 to R318). -/

namespace Sys2Proof.Machine

/-! ### Order of values -/

section
variable {a b : Ratio} (ha : 0 < a.den) (hb : 0 < b.den)
include ha hb

theorem Ratio.less_iff : a.less b = true ↔ a.toRat < b.toRat := by
  rw [less, decide_eq_true_eq, toRat, toRat, div_lt_div_iff₀ (Nat.cast_pos.mpr ha) (Nat.cast_pos.mpr hb)]
  norm_cast

theorem Ratio.equal_iff : a.equal b = true ↔ a.toRat = b.toRat := by
  rw [equal, decide_eq_true_eq, toRat, toRat, div_eq_div_iff (Nat.cast_ne_zero.mpr ha.ne') (Nat.cast_ne_zero.mpr hb.ne')]
  norm_cast

end

/-! ### One element -/

/-- Of two values, the mask bit is the relation that the compare function names, and there is no exception (R311). -/
theorem floatCompare_of_values (t : FloatFmt) (fn : BitVec 3) {a b : Quad} (free : Quad) (ha : t.isRsvd a = false)
    (hb : t.isRsvd b = false) :
    (floatCompare t fn a b free).types = 0 ∧
      ((floatCompare t fn a b free).val.getLsbD 0 = true ↔ Relation fn (t.value a).toRat (t.value b).toRat) := by
  have hvalues : ¬ (t.isRsvd a || t.isRsvd b) = true := by simp [ha, hb]
  rw [floatCompare, if_neg hvalues, getLsbD_bit]
  exact ⟨rfl, relation_iff fn (Ratio.less_iff (t.den_value_pos a) (t.den_value_pos b))
    (Ratio.equal_iff (t.den_value_pos a) (t.den_value_pos b))⟩

/-- A reserved operand is the exception of a compare (R310). -/
theorem floatCompare_of_reserved (t : FloatFmt) (fn : BitVec 3) {a b : Quad} (free : Quad)
    (h : t.isRsvd a = true ∨ t.isRsvd b = true) : (floatCompare t fn a b free).types = AexSet.reservedOperand := by
  rw [floatCompare, if_pos ((Bool.or_eq_true _ _).mpr h)]
  rfl

/-! ### The instructions -/

/-- A compare changes besides VMR only the record of exceptions (R310, R312). -/
theorem executed_onlyMask (e : QEntry) (p : Vp) (hcp : e.copy = none) (hw : e.op.writesMask = true) :
    OnlyMask p (executed e p) := by
  rw [executed_none e p hcp]
  rw [settleOn_frame_mask (finishElems e _ _) _ _ hw, Vp.recordAex_frame]
  rfl

theorem effectOf_floatCompare (t : FloatFmt) (form : Form) (o : Operands) (s : State) (k : Fin 64) :
    (effectOf (sentEntry (.floatCompare t form) o s) s.vp).elem k =
      floatCompare t (compareFn (controlWord o)) (firstValue form s o k) (secondValue s o k) (elemDraw o.state.draws k) := by
  rw [← firstOperand_sentEntry (op := .floatCompare t form) rfl rfl]
  rfl

theorem exec_floatCompareForm {c x : Spec} {i : Instr} {t : FloatFmt} {form : Form} {sps : List Spec}
    (h : (i, t, form, sps) ∈ floatCompareForms c x) (s : State) : exec i s = issue (.floatCompare t form) sps s := by
  have hmem : (i, VOp.floatCompare t form, sps) ∈ lengthForms c c x := by
    simp only [lengthForms, List.mem_append]
    exact .inl (.inl (.inl (.inl (.inl (.inr (List.mem_map_of_mem h))))))
  exact (exec_lengthForm hmem s).1

/-- Settles O16: issue executes the instruction; `floatCompare_of_values` and `floatCompare_of_reserved` say what an active
element leaves and raises, and the record has no destination, since a compare has no destination register. -/
theorem floatCompares : Obligations.FloatCompares := by
  intro c x i t form sps s o hmem hruns
  obtain ⟨types, hactive, hinactive, hrecorded⟩ := hruns.recorded_operated rfl
  refine ⟨operatedState (.floatCompare t form) o s, types, (exec_floatCompareForm hmem s).trans (hruns.issue_operated rfl),
    operatedState_onlyVp _ o s, executed_onlyMask (sentEntry (.floatCompare t form) o s) s.vp rfl rfl,
    fun k hk hfirst hsecond => ?_, fun k hk hreserved => ?_,
    fun k hk => ⟨hinactive k hk, hruns.vmr_operated_other rfl rfl hk⟩, hrecorded⟩
  · rw [hactive k hk, hruns.vmr_operated rfl rfl hk, effectOf_floatCompare]
    exact floatCompare_of_values t _ _ hfirst hsecond
  · rw [hactive k hk, effectOf_floatCompare]
    exact floatCompare_of_reserved t _ _ hreserved

end Sys2Proof.Machine
end

section
/-! VVCVT and its forms on the vector registers (R320 to R336). -/

namespace Sys2Proof.Machine

/-! ### One element -/

/-- A longword result with its overflow, where EXC makes that an exception (R240, R322). -/
theorem long_outcome (n : ℤ) (b : Bool) (free : Quad) :
    LongOutcome n b (Elem.long (BitVec.ofInt 32 n) free (if b && intOverflows n then AexSet.integerOverflow else 0)).val
      (if b && intOverflows n then AexSet.integerOverflow else 0) := by
  refine ⟨Quad.lo_mk _ _, fun hb hover => if_pos ?_, fun hnone => if_neg ?_⟩
  · rw [Bool.and_eq_true, intOverflows_iff]
    exact ⟨hb, hover⟩
  · rw [Bool.and_eq_true, intOverflows_iff]
    rintro ⟨hb, hover⟩
    exact hnone.elim (fun hoff => Bool.noConfusion (hoff.symm.trans hb)) (absurd hover)

section
variable (b : Bool) (x free : Quad)

/-- A conversion to a longword: of a reserved operand the exception, of a value its integer (R322). -/
theorem convertToLong_outcome (t : FloatFmt) (rounded : Bool) :
    (t.isRsvd x = true → (convertToLong t rounded b x free).types = 4) ∧
      (t.isRsvd x = false →
        LongOutcome (if rounded then roundedAway (t.value x).toRat else truncated (t.value x).toRat) b
          (convertToLong t rounded b x free).val (convertToLong t rounded b x free).types) := by
  rw [← Ratio.round_eq_roundedAway, ← Ratio.trunc_eq_truncated]
  unfold convertToLong
  cases t.isRsvd x with
  | true => exact ⟨fun _ => rfl, nofun⟩
  | false => exact ⟨nofun, fun _ => long_outcome _ b free⟩

/-- A conversion between floating formats: of a reserved operand the encoded one, of a value its rounding (R276, R278). -/
theorem convertFloat_outcome (src dst : FloatFmt) :
    (src.isRsvd x = true →
        HoldsReserved (convertFloat src dst b x free).val 4 ∧ (convertFloat src dst b x free).types = 4) ∧
      (src.isRsvd x = false →
        Rounds dst (src.value x) b (convertFloat src dst b x free).val (convertFloat src dst b x free).types) := by
  unfold convertFloat
  cases src.isRsvd x with
  | true => exact ⟨fun _ => ⟨holdsReserved_encRsvd (by decide) free, rfl⟩, nofun⟩
  | false => exact ⟨nofun, fun _ => elem_encode_rounds dst _ b free⟩

/-- One element of VVCVT is, for every convert function that is not reserved, what R321 to R335 say. -/
theorem convertElem_outcome {fn : BitVec 4} (hfn : ¬ (fn = 0 ∨ fn = 11 ∨ fn = 14)) :
    ConvertOutcome fn b x (convertElem fn b x free).val (convertElem fn b x free).types := by
  have hlt := fn.isLt
  simp only [← BitVec.toNat_inj] at hfn
  unfold convertElem ConvertOutcome
  generalize fn.toNat = n at hfn hlt ⊢
  interval_cases n
  exacts [absurd hfn (by decide), elem_encode_rounds .f _ false free, elem_encode_rounds .d _ false free,
    elem_encode_rounds .g _ false free, convertToLong_outcome b x free .f false, convertToLong_outcome b x free .f true,
    convertFloat_outcome b x free .f .d, convertFloat_outcome b x free .f .g, convertToLong_outcome b x free .d false,
    convertFloat_outcome b x free .d .f, convertToLong_outcome b x free .d true, absurd hfn (by decide),
    convertToLong_outcome b x free .g false, convertFloat_outcome b x free .g .f, absurd hfn (by decide),
    convertToLong_outcome b x free .g true]

end

/-! ### The instructions -/

/-- An instruction that runs has a control word that means something (R142, R336). -/
theorem Runs.not_meaningless {op : VOp} {sps : List Spec} {o : Operands} {s : State} (h : Runs op sps o s)
    (hu : op.usesLength = true) : ¬ Meaningless op sps (controlWord o) := by
  obtain ⟨-, -, -, haccept, -⟩ := h
  rw [Acceptable, entryOf_cntrl hu] at haccept
  rcases staticStop_cases hu sps (controlWord o) (entryOf op o s).scalar with ⟨-, r, -, hstop⟩ | ⟨hmeaning, -⟩
  · exact nomatch haccept.symm.trans hstop
  · exact hmeaning

theorem Runs.convertFn_not_reserved {sps : List Spec} {o : Operands} {s : State} (h : Runs .convert sps o s) :
    ¬ (fieldA (controlWord o) = 0 ∨ fieldA (controlWord o) = 11 ∨ fieldA (controlWord o) = 14) := fun hfn =>
  h.not_meaningless rfl (.inr (.inr (.inl ⟨rfl, (convertFn_eq_iff _).mp hfn⟩)))

theorem effectOf_convert (o : Operands) (s : State) (k : Fin 64) :
    (effectOf (sentEntry .convert o s) s.vp).elem k =
      convertElem (fieldA (controlWord o)) (exc (controlWord o)) (secondValue s o k) (elemDraw o.state.draws k) := rfl

theorem exec_convertForm {c : Spec} {i : Instr} (h : i ∈ convertForms c) (s : State) : exec i s = issue .convert [c] s := by
  have hmem : (i, VOp.convert, [c]) ∈ lengthForms c c c := by
    simp only [lengthForms, List.mem_append]
    exact .inl (.inl (.inl (.inl (.inr (List.mem_map_of_mem h)))))
  exact (exec_lengthForm hmem s).1

/-- Settles O17: issue executes the instruction, whose convert function is not reserved; `convertElem_outcome` says what an
active element leaves and raises, `Runs.recorded_operated` what of that is recorded. -/
theorem converts : Obligations.Converts := by
  intro c i s o hmem hruns
  obtain ⟨types, hactive, hinactive, hrecorded⟩ := hruns.recorded_operated rfl
  refine ⟨operatedState .convert o s, types, (exec_convertForm hmem s).trans (hruns.issue_operated rfl),
    operatedState_onlyVp _ o s, executed_onlyResults (sentEntry .convert o s) s.vp rfl rfl rfl VOp.noConfusion,
    hruns.otherElementsKeep_operated rfl rfl rfl, fun k hk => ?_, hinactive, hrecorded⟩
  rw [hruns.resultOf_operated rfl rfl rfl hk, hactive k hk, effectOf_convert]
  exact convertElem_outcome _ _ _ hruns.convertFn_not_reserved

end Sys2Proof.Machine
end

section
/-! VVMERGE, VSMERGE and IOTA on the vector registers (R340 to R343). -/

namespace Sys2Proof.Machine

/-! ### Instructions without masks -/

/-- Where MOE is a bit that should be zero, an instruction that runs is active on every element below VLR (R142, R183). -/
theorem Runs.active_iff_of_no_masks {op : VOp} {sps : List Spec} {o : Operands} {s : State} (hruns : Runs op sps o s)
    (hu : op.usesLength = true) (hmoe : ∀ c : Word, c.getLsbD 15 = true → ShouldBeZero op c) (k : Fin 64) :
    Active s o k ↔ k.val < s.vp.vlr.toNat := by
  have hclear : (controlWord o).getLsbD 15 = false :=
    Bool.eq_false_iff.mpr fun hset => hruns.not_meaningless hu (.inl (hmoe _ hset))
  exact and_iff_left (.inl hclear)

/-- The elements that such an instruction keeps are those at and above VLR (R22). -/
theorem OtherElementsKeep.keeps_from_vlr {s t : State} {o : Operands} (h : OtherElementsKeep s t o)
    (hactive : ∀ k, Active s o k ↔ k.val < s.vp.vlr.toNat) {r : BitVec 4} {k : Fin 64}
    (hk : r ≠ fieldC (controlWord o) ∨ s.vp.vlr.toNat ≤ k.val) : t.vp.elem r k = s.vp.elem r k :=
  h r k (hk.imp_right fun hge => (hactive k).not.mpr (Nat.not_lt.mpr hge))

/-! ### VVMERGE and VSMERGE -/

/-- One element of a merge: the operand that its mask bit selects (R340). -/
theorem effectOf_merge (form : Form) (o : Operands) (s : State) (k : Fin 64) :
    (effectOf (sentEntry (.merge form) o s) s.vp).elem k =
      ⟨if s.vp.vmr.getLsbD k = (controlWord o).getLsbD 14 then firstValue form s o k else secondValue s o k, 0⟩ := by
  have helem : (effectOf (sentEntry (.merge form) o s) s.vp).elem k =
      ⟨if matchesMtf s.vp (controlWord o) k then firstOperand s.vp (sentEntry (.merge form) o s) form k
        else secondValue s o k, 0⟩ := rfl
  rw [helem, firstOperand_sentEntry (op := .merge form) rfl rfl]
  simp only [matchesMtf, mtf, beq_iff_eq]

theorem shouldBeZero_merge_of_moe (form : Form) (c : Word) (h : c.getLsbD 15 = true) : ShouldBeZero (.merge form) c := by
  cases form <;> exact .inr h

theorem exec_mergeForm {c x : Spec} {i : Instr} {form : Form} {sps : List Spec} (h : (i, form, sps) ∈ mergeForms c x)
    (s : State) : exec i s = issue (.merge form) sps s := by
  have hmem : (i, VOp.merge form, sps) ∈ lengthForms c c x := by
    simp only [lengthForms, List.mem_append]
    exact .inl (.inl (.inl (.inr (List.mem_map_of_mem h))))
  exact (exec_lengthForm hmem s).1

/-- Settles O18: issue leaves the operand that `effectOf_merge` selects in every active element; these are the elements below
VLR, for MOE should be zero. -/
theorem merges : Obligations.Merges := by
  intro c x i form sps s o hmem hruns
  obtain ⟨t, hissue, honly, hframe, hothers, hresult⟩ :=
    hruns.issue_of_no_exception rfl rfl rfl VOp.noConfusion (effectOf_merge form o s) fun _ => rfl
  have hactive := hruns.active_iff_of_no_masks rfl (shouldBeZero_merge_of_moe form)
  exact ⟨t, (exec_mergeForm hmem s).trans hissue, honly, hframe, fun k hk => hresult k ((hactive k).mpr hk),
    fun _ _ hk => hothers.keeps_from_vlr hactive hk⟩

/-! ### IOTA -/

/-- With everything before it done, an instruction has all its mask bits (R196). -/
theorem knownPrefix_done (p : Vp) (e : QEntry) (hl : e.len.toNat ≤ 64) :
    knownPrefix ⟨p, {}⟩ e = List.range e.len.toNat := by
  refine List.takeWhile_eq_self_iff.mpr fun i hi => ?_
  rw [getLsbD_allElements]
  exact decide_eq_true ((List.mem_range.mp hi).trans_le hl)

/-- IOTA raises no exception. -/
theorem types_effectOf_iota (o : Operands) (s : State) (k : Fin 64) :
    ((effectOf (sentEntry .iota o s) s.vp).elem k).types = 0 := by
  show ((iotaEffect (sentEntry .iota o s) s.vp).elem k).types = 0
  unfold iotaEffect
  dsimp only
  split <;> rfl

/-- The positions that IOTA takes are those below VLR whose mask bit matches (R343). -/
theorem iotaPositions_sentEntry {o : Operands} {s : State} (hq : s.vp.queue = []) :
    iotaPositions (sentEntry .iota o s) s.vp =
      (List.range s.vp.vlr.toNat).filter fun i => s.vp.vmr.getLsbD i == (controlWord o).getLsbD 14 := by
  have hlen : (sentEntry .iota o s).len = s.vp.vlr := (entryOf_len (op := .iota) rfl o s).trans (currentLength_empty _ hq)
  rw [iotaPositions, hlen]
  rfl

/-- The element of IOTA at which a position is taken holds that position's offset (R343). -/
theorem effectOf_iota_lo {o : Operands} {s : State} {j : Fin 64} {i : Nat}
    (h : (iotaPositions (sentEntry .iota o s) s.vp)[j.val]? = some i) :
    ((effectOf (sentEntry .iota o s) s.vp).elem j).val.lo.toNat = i * (o.value 1).lo.toNat % 2 ^ 32 := by
  have helem : (effectOf (sentEntry .iota o s) s.vp).elem j =
      Elem.long (BitVec.ofNat 32 i * (o.value 1).lo) (elemDraw o.state.draws j) := by
    show (iotaEffect (sentEntry .iota o s) s.vp).elem j = _
    simp only [iotaEffect, h, entryOf_scalar (op := .iota) rfl]
  rw [helem, Elem.long, Quad.lo_mk, BitVec.toNat_mul, BitVec.toNat_ofNat, Nat.mod_mul_mod]

theorem length_filter_range_le (f : Nat → Bool) (n : Nat) : ((List.range n).filter f).length ≤ n :=
  (List.length_filter_le _ _).trans_eq List.length_range

/-- IOTA changes its destination, VCR, and what these depend on (R343). -/
theorem executed_iota_frame (e : QEntry) (p : Vp) (hop : e.op = .iota) (hcp : e.copy = none)
    (htypes : ∀ k, ((effectOf e p).elem k).types = 0) :
    executed e p =
      { p with v := (executed e p).v, taint := (executed e p).taint, vcr := (executed e p).vcr } := by
  rw [executed_of_no_exception e p hcp htypes]
  obtain ⟨op, _⟩ := e
  cases hop
  rfl

/-- IOTA leaves the number of the positions it takes in VCR (R343). -/
theorem vcr_executed_iota (e : QEntry) (p : Vp) (hop : e.op = .iota) (hcp : e.copy = none) (hl : e.len.toNat ≤ 64) :
    (executed e p).vcr.toNat = (iotaPositions e p).length := by
  have hcount : iotaCount e ⟨p, {}⟩ = some (BitVec.ofNat 7 (iotaPositions e p).length) := by
    simp only [iotaCount, hop, knownPrefix_done p e hl, List.length_range, if_true]
  have hle : (iotaPositions e p).length ≤ e.len.toNat := length_filter_range_le _ _
  have hu : (finishElems e ⟨p, {}⟩ (View.openElems ⟨p, {}⟩ e)).op.usesLength = true := congrArg VOp.usesLength hop
  rw [executed_none e p hcp]
  refine (congrArg BitVec.toNat ((vcr_settleOn _ _ hu).trans (if_pos hop))).trans ?_
  show ((iotaCount e ⟨p, {}⟩).getD _).toNat = _
  rw [hcount, Option.getD_some, BitVec.toNat_ofNat, Nat.mod_eq_of_lt (by omega)]

/-- Settles O19: a position's place is the number of matching positions before it (`getElem?_filter_range`), and issue leaves
its offset there (`effectOf_iota_lo`) and the number of all in VCR (`vcr_executed_iota`). -/
theorem iotaCompresses : Obligations.IotaCompresses := by
  intro c x s o hruns taken before
  have hactive := hruns.active_iff_of_no_masks rfl fun _ => Or.inr
  have hpositions : iotaPositions (sentEntry .iota o s) s.vp = (List.range s.vp.vlr.toNat).filter taken :=
    iotaPositions_sentEntry hruns.queue
  refine ⟨operatedState .iota o s, hruns.issue_operated rfl, operatedState_onlyVp _ o s,
    executed_iota_frame (sentEntry .iota o s) s.vp rfl rfl (types_effectOf_iota o s), ?_, fun i j hi htaken hj => ?_,
    fun _ _ hk => (hruns.otherElementsKeep_operated rfl rfl rfl).keeps_from_vlr hactive hk⟩
  · rw [operatedState_vp, vcr_executed_iota (sentEntry .iota o s) s.vp rfl rfl hruns.len_sentEntry, hpositions]
  · have hplace : (iotaPositions (sentEntry .iota o s) s.vp)[j.val]? = some i.val := by
      rw [hpositions]
      exact (getElem?_filter_range taken _ _ _).mpr ⟨hi, htaken, hj⟩
    have hbelow : j.val < s.vp.vlr.toNat := by
      rw [hj]
      exact (length_filter_range_le taken _).trans_lt hi
    rw [hruns.resultOf_operated rfl rfl rfl ((hactive j).mpr hbelow), effectOf_iota_lo hplace]

end Sys2Proof.Machine
end

section
/-! Taking an exception and returning from it (R403, R410, R411, R435), and what takes the reserved-instruction fault or the vector
processor disabled fault whatever it would do (R370, R387, R403, R404). -/

namespace Sys2Proof.Machine

/-! ### The PSL of an exception -/

theorem currentMode_exceptionPsl (psl : Long) : currentMode (exceptionPsl psl) = 0 := by
  refine BitVec.eq_of_getLsbD_eq fun i hi => ?_
  have h01 : i = 0 ∨ i = 1 := by omega
  rcases h01 with rfl | rfl <;> simp [currentMode, exceptionPsl]

theorem previousMode_exceptionPsl (psl : Long) : (exceptionPsl psl).extractLsb' 22 2 = currentMode psl := by
  refine BitVec.eq_of_getLsbD_eq fun i hi => ?_
  have h01 : i = 0 ∨ i = 1 := by omega
  rcases h01 with rfl | rfl <;> simp [currentMode, exceptionPsl]

/-- In kernel mode the current stack is the one that the exception used (log entry 13). -/
theorem stackIndex_exceptionPsl (psl : Long) : Scalar.stackIndex (exceptionPsl psl) = exceptionStack psl := by
  have hstack : onInterruptStack (exceptionPsl psl) = onInterruptStack psl := by simp [onInterruptStack, exceptionPsl]
  simp only [Scalar.stackIndex, exceptionStack, hstack, currentMode_exceptionPsl]
  rfl

/-! ### The frame on the stack -/

theorem longsValue_lt (xs : List Long) : longsValue xs < 256 ^ (4 * xs.length) := by
  induction xs with
  | nil => simp [longsValue]
  | cons x xs ih =>
    have hx := x.isLt
    rw [longsValue, List.length_cons, Nat.mul_succ, pow_add]
    omega

/-- The frame reads back, whatever memory holds: the scalar processor sees its own writes at once (R101). -/
theorem scalarRead_frame {t : State} {ws : List (List Host.Cell)} {pas : List Nat} {xs : List Long}
    (hw : t.cpu.wbuf = ws ++ longCells pas xs) (hl : pas.length = 4 * xs.length) (hn : pas.Nodup) :
    t.scalarRead pas = longsValue xs := by
  have hbyte (a : Nat) (_ : a ∈ pas) : t.scalarByte a =
      (lastCell (cellsAt pas (longsValue xs)) a).getD ((lastCell ws.flatten a).getD (t.mem.read a)) := by
    rw [State.scalarByte, hw, List.flatten_append, lastCell_append, longCells_flatten _ _ hl]
    cases lastCell (cellsAt pas (longsValue xs)) a <;> rfl
  rw [scalarRead_cellsAt hn hbyte, hl, Nat.mod_eq_of_lt (longsValue_lt xs)]

theorem takeException_next {e : Exc} {s : State} {pas : List Nat}
    (h : scalarTranslateBytes s 0 true (s.cpu.sps[exceptionStack s.cpu.psl] - BitVec.ofNat 32 (4 * (exceptionFrame e s).length))
      (4 * (exceptionFrame e s).length) = .ok pas) :
    takeException e s = .next { s with
      cpu := { s.cpu with
        wbuf := s.cpu.wbuf ++ longCells pas (exceptionFrame e s)
        sps := s.cpu.sps.set (exceptionStack s.cpu.psl)
          (s.cpu.sps[exceptionStack s.cpu.psl] - BitVec.ofNat 32 (4 * (exceptionFrame e s).length))
        psl := exceptionPsl s.cpu.psl
        pc := handlerAddress e s } } := by
  simp only [takeException, h]
  rfl

theorem exceptionFrame_eq (e : Exc) (s : State) :
    ∃ rest, exceptionFrame e s = rest ++ [s.cpu.pc, s.cpu.psl] ∧ ∀ f, e = .mm f → rest = [f.param, f.va] := by
  cases e with
  | mm f => exact ⟨[f.param, f.va], rfl, fun _ h => by cases h; rfl⟩
  | _ => exact ⟨[], rfl, fun _ h => by cases h⟩

/-- Settles O42: the frame's writes are the youngest of the scalar processor, which sees them; nothing else of memory is written. -/
theorem takingAnException : Obligations.TakingAnException := by
  intro e s pas frame k sp htr hn
  have hl : pas.length = 4 * frame.length := length_scalarTranslateBytes htr
  refine ⟨_, takeException_next htr, Vector.getElem_set_self _, scalarRead_frame rfl hl hn, exceptionFrame_eq e s,
    currentMode_exceptionPsl _, previousMode_exceptionPsl _, rfl, rfl, rfl, rfl, fun j hj => ?_, fun a ha => ?_⟩
  · exact Vector.getElem_set_ne (exceptionStack s.cpu.psl).isLt j.isLt fun h => hj (Fin.ext h.symm)
  · have hnone : lastCell (longCells pas frame).flatten a = none := by
      rw [longCells_flatten _ _ hl, lastCell_cellsAt_none ha]
    show (lastCell (s.cpu.wbuf ++ longCells pas frame).flatten a).getD (s.mem.read a) = s.scalarByte a
    rw [List.flatten_append, lastCell_append, hnone]
    rfl

/-! ### REI -/

theorem scalarRead_append (s : State) (as bs : List Nat) :
    s.scalarRead (as ++ bs) = s.scalarRead as + 256 ^ as.length * s.scalarRead bs := by
  induction as with
  | nil => simp [State.scalarRead]
  | cons a as ih =>
    rw [List.cons_append, State.scalarRead, ih, State.scalarRead, List.length_cons]
    ring

theorem scalarRead_lt (s : State) (as : List Nat) : s.scalarRead as < 256 ^ as.length := by
  induction as with
  | nil => simp [State.scalarRead]
  | cons a as ih =>
    have hbyte := (s.scalarByte a).isLt
    rw [State.scalarRead, List.length_cons, Nat.pow_succ']
    omega

/-- Two longwords in a row, each read by itself. -/
theorem scalarRead_halves {s : State} {pas : List Nat} {x y : Long} (hl : pas.length = 8)
    (h : s.scalarRead pas = longsValue [x, y]) : s.scalarRead (pas.take 4) = x.toNat ∧ s.scalarRead (pas.drop 4) = y.toNat := by
  have hsplit := scalarRead_append s (pas.take 4) (pas.drop 4)
  have hlow := scalarRead_lt s (pas.take 4)
  have hlen : (pas.take 4).length = 4 := by rw [List.length_take, hl]; rfl
  have hx := x.isLt
  rw [List.take_append_drop, h, hlen] at hsplit
  rw [hlen] at hlow
  simp only [longsValue] at hsplit
  omega

theorem seenAt_cpu (n : Nat) (s : State) : (s.seenAt n).cpu = s.cpu := by rw [State.seenAt_frame]

/-- REI in kernel mode on a stack whose two uppermost longwords the scalar processor has just written (R435): it sees them, even
where vector writes become visible between its reads. -/
theorem execRei_frame {t : State} {k : Fin 5} {pas : List Nat} {pc psl : Long} {ws : List (List Host.Cell)} (hm : t.mode = 0)
    (hk : Scalar.stackIndex t.cpu.psl = k) (htr : scalarTranslateBytes t 0 false t.cpu.sps[k] 8 = .ok pas) (hn : pas.Nodup)
    (hw : t.cpu.wbuf = ws ++ longCells pas [pc, psl]) :
    execRei t = .next { t with
      cpu := { t.cpu with sps := t.cpu.sps.set k (t.cpu.sps[k] + 8), pc := pc, psl := psl } } := by
  have hl : pas.length = 8 := length_scalarTranslateBytes htr
  have hread (n : Nat) : (t.seenAt n).scalarRead pas = longsValue [pc, psl] :=
    scalarRead_frame (ws := ws) (by rw [seenAt_cpu, hw]) hl hn
  have hpc := (scalarRead_halves hl (hread 0)).1
  have hpsl := (scalarRead_halves hl (hread 1)).2
  simp only [execRei, hm, hk, htr, hpc, hpsl, BitVec.ofNat_toNat, BitVec.setWidth_eq]

theorem exceptionFrame_short {e : Exc} (he : ∀ f, e ≠ .mm f) (s : State) : exceptionFrame e s = [s.cpu.pc, s.cpu.psl] := by
  cases e with
  | mm f => exact absurd rfl (he f)
  | _ => rfl

/-- Settles O43: REI finds on the stack that the PSL selects the frame that the exception has pushed. -/
theorem exceptionThenRei : Obligations.ExceptionThenRei := by
  intro e s t pas he htake sp hw hr hn
  have hframe := exceptionFrame_short he s
  have hnext := takeException_next (e := e) (s := s) (pas := pas) (by rw [hframe]; exact hw)
  have ht := Host.Outcome.next.inj (htake.symm.trans hnext)
  have hcpu := congrArg State.cpu ht
  rw [hframe] at hcpu
  have hpsl : t.cpu.psl = exceptionPsl s.cpu.psl := by rw [hcpu]
  have hsps : t.cpu.sps = s.cpu.sps.set (exceptionStack s.cpu.psl) sp := by rw [hcpu]; rfl
  have hsp : t.cpu.sps[exceptionStack s.cpu.psl] = sp := by rw [hsps]; exact Vector.getElem_set_self _
  have hrestored : t.cpu.sps.set (exceptionStack s.cpu.psl) (t.cpu.sps[exceptionStack s.cpu.psl] + 8) = s.cpu.sps := by
    have hback : sp + 8 = s.cpu.sps[exceptionStack s.cpu.psl] := BitVec.sub_add_cancel _ _
    rw [hsp, hsps, Vector.set_set, hback]
    exact Vector.set_getElem_self _
  have hrei := execRei_frame (t := t) (k := exceptionStack s.cpu.psl) (ws := s.cpu.wbuf)
    (by rw [State.mode, hpsl, currentMode_exceptionPsl]) (by rw [hpsl, stackIndex_exceptionPsl]) (by rw [hsp]; exact hr) hn
    (by rw [hcpu])
  refine ⟨_, hrei, rfl, rfl, hrestored, ?_, ?_, ?_⟩
  · show t.cpu.gpr = s.cpu.gpr
    rw [hcpu]
  · show t.vp = s.vp
    rw [ht]
  · show t.cpu.venSeen = s.cpu.venSeen
    rw [hcpu]

/-! ### Privilege -/

/-- Settles O51: the mode is looked at once the operands are evaluated. -/
theorem iprPrivilege : Obligations.IprPrivilege := by
  refine ⟨fun a b s o ho hm => ?_, fun a d s o ho hm => ?_⟩
  · simp only [execMtpr, withOperands, ho, if_pos hm]
  · simp only [execMfpr, withOperands, ho, if_pos hm]

/-! ### S_VEN clear, and no vector processor -/

theorem turnedAway_disabled {s : State} (hpresent : s.cfg.vpPresent = true) (hven : s.cpu.venSeen = false) :
    turnedAway s = some (takeDisabled s) := by
  simp [turnedAway, hpresent, hven]

/-- Settles O39: the test of S_VEN turns the instruction away, whichever it is; what the fault reports is forgotten (R426). -/
theorem disabledFault : Obligations.DisabledFault := fun _ _ _ ho hpresent hven =>
  exec_turnedAway ho (turnedAway_disabled hpresent hven)

theorem turnedAway_absent {s : State} (h : s.cfg.vpPresent = false) : turnedAway s = some (takeException .reservedInstr s) := by
  simp [turnedAway, h]

/-- Without a vector processor no operand of a vector instruction is refused (R404). -/
theorem exec_refusedOperand {i : Instr} {s : State} {r : Refusal} (hp : s.cfg.vpPresent = false)
    (hr : evalOperands 2 i.accesses i.operands s = .refused r) : exec i s = takeException .reservedInstr s := by
  rcases exec_operands i s with ⟨op, ha, h⟩ | ⟨sel, h⟩ | ⟨sel, ha, h⟩ <;> rw [h]
  · simp [issue, withVectorOperands, ha, hr, hp]
  · simp [issueByRegnum, withVectorOperands, hr, hp]
  · rw [ha] at hr
    simp [issueMfvp, withVectorOperands, hr, hp]

theorem mtprWrite_vpsr_absent {n v : Long} (s t : State) (hn : n.toNat = 0x90) (hp : s.cfg.vpPresent = false) :
    mtprWrite n v s t = .next t := by
  simp [mtprWrite, hn, hp]

theorem mfprRead_vpsr_absent {n : Long} (o : Operands) (s t : State) (hn : n.toNat = 0x90) (hp : s.cfg.vpPresent = false) :
    mfprRead n o s t = .next (delivered 0 o t) := by
  simp [mfprRead, hn, hp, finishMfpr_eq]

theorem mfprRead_vmac_absent {n : Long} (o : Operands) (s t : State) (hn : n.toNat = 0x92) (hp : s.cfg.vpPresent = false) :
    mfprRead n o s t = .next (delivered (miscDraw t.draws 1).lo o t.spend) := by
  simp [mfprRead, hn, hp, finishMfpr_eq]

/-- The PSL's condition codes and the PC are no general registers (R50). -/
theorem finishIpr_sameRegister (v next : Long) (u : State) (n : RegNo) : SameRegister n u (finishIpr v next u) :=
  readReg_setNZ v u.cpu next n 0

/-- Writing a destination leaves the general registers that it does not name. -/
theorem writeDest_sameRegister {d : Operand} {n : RegNo} (h : d ≠ .register n) (v : Long) (u : State) :
    SameRegister n u (writeDest d v u) := by
  cases d with
  | register m => exact readReg_writeReg_of_ne _ (fun hm => h (congrArg Operand.register hm.symm)) _ _
  | _ => rfl

theorem delivered_sameRegister {o : Operands} {n : RegNo} (h : o.dest 1 ≠ .register n) (v : Long) (u : State) :
    SameRegister n u (delivered v o u) :=
  (finishIpr_sameRegister v o.next _ n).trans (writeDest_sameRegister h v u)

/-- Settles O40: no test of the issue comes before that for a vector processor; MTPR does nothing, and MFPR only delivers. -/
theorem noVectorProcessor : Obligations.NoVectorProcessor := by
  refine ⟨fun i s o r hp ho => ?_, fun a b s o ho hm hp h90 => ?_, fun a d s o ho hm hp hreg => ?_⟩
  · exact ho.elim (fun h => exec_turnedAway h (turnedAway_absent hp)) (exec_refusedOperand hp)
  · obtain ⟨-, hvp, hmem, -, -, -, -, -, -, -, hven, -⟩ := (evalOperands_frame _ _ _ _ _ ho).fields
    exact ⟨_, (execMtpr_kernel ho hm).trans (mtprWrite_vpsr_absent _ _ (congrArg BitVec.toNat h90) hp), hvp, hmem, rfl, hven,
      finishIpr_sameRegister _ _ _⟩
  · obtain ⟨-, hvp, hmem, -⟩ := (evalOperands_frame _ _ _ _ _ ho).fields
    have hkept (v : Long) (u : State) (huv : u.vp = s.vp) (hum : u.mem = s.mem) :
        (delivered v o u).vp = s.vp ∧ (delivered v o u).mem = s.mem ∧ (delivered v o u).cpu.pc = o.next := by
      rw [delivered_frame]
      exact ⟨huv, hum, rfl⟩
    rcases hreg with h90 | h92
    · obtain ⟨hv, hme, hpc⟩ := hkept 0 o.state hvp hmem
      exact ⟨_, (execMfpr_kernel ho hm).trans (mfprRead_vpsr_absent o _ _ (congrArg BitVec.toNat h90) hp), hv, hme, hpc,
        fun n _ hd hn => delivered_register 0 o _ hd hn, fun n hd => delivered_sameRegister hd 0 _⟩
    · obtain ⟨hv, hme, hpc⟩ := hkept (miscDraw o.state.draws 1).lo o.state.spend hvp hmem
      exact ⟨_, (execMfpr_kernel ho hm).trans (mfprRead_vmac_absent o _ _ (congrArg BitVec.toNat h92) hp), hv, hme, hpc,
        fun n h90 => absurd (h92.symm.trans h90) (by decide), fun n hd => delivered_sameRegister hd _ o.state.spend⟩

end Sys2Proof.Machine
end

section
/-! MTVP and its forms on an idle vector processor (R360 to R364). -/

namespace Sys2Proof.Machine

/-- The form of MTVP that writes a control register. -/
def CtrlReg.mtvpForm (r : CtrlReg) (regnum src : Spec) : Instr :=
  match r with
  | .vcr => .mtvcr regnum src
  | .vlr => .mtvlr regnum src
  | .vmrlo => .mtvmrlo regnum src
  | .vmrhi => .mtvmrhi regnum src

/-- MTVP of a control register, by its form or by its register number, is issued as what it is (R350). -/
theorem exec_mtvp {i : Instr} {r : CtrlReg} {a b : Spec} {s : State} {o : Operands}
    (hi : i = r.mtvpForm a b ∨ i = .mtvp a b ∧ ctrlOfRegnum s.cfg.regnum ((o.value 0).truncate 16) = some r)
    (ho : evalOperands 2 [.rw, .rl] [a, b] s = .ok o) : exec i s = issue (.mtvp r) [a, b] s := by
  rcases hi with rfl | ⟨rfl, hr⟩
  · cases r <;> rfl
  · exact issueByRegnum_eq_issue (sel := fun n => (ctrlOfRegnum s.cfg.regnum n).map .mtvp) ho rfl (by simp only [hr, Option.map_some])

/-- Of MTVP only the source of VLR and of VCR can be refused (R361, R362). -/
theorem staticStop_mtvp (r : CtrlReg) (sps : List Spec) (o : Operands) (s : State) :
    staticStop (.mtvp r) sps (entryOf (.mtvp r) o s).cntrl (entryOf (.mtvp r) o s).scalar =
      if r = .vlr ∨ r = .vcr then (if (o.value 1).lo.toNat < 128 then none else some .mtvpHighBits) else none := by
  have hcntrl : (entryOf (.mtvp r) o s).cntrl = 0 := rfl
  have hscalar : (entryOf (.mtvp r) o s).scalar = o.value 1 := rfl
  rw [staticStop_eq, hcntrl, hscalar, if_neg (fun h => Bool.noConfusion h.1), if_neg (fun h => Bool.noConfusion h.1),
    if_neg (fun h => h BitVec.zero_and)]
  cases r <;> rfl

/-- MTVP depends on nothing and is finished when it is settled (R198). -/
theorem executed_mtvp {e : QEntry} {r : CtrlReg} (p : Vp) (hop : e.op = .mtvp r) (hl : e.len = 0) (hc : e.copy = none) :
    executed e p = writeCtrl r e.scalar.lo p := by
  rw [executed_idle e p (openElems_of_len_zero p e hl) (fun h => by rw [hop] at h; cases h), settle_none hc, QEntry.settleOn, hop]

/-- MTVP of a source that is not refused, where nothing is queued: the register is written. -/
theorem issue_mtvp {r : CtrlReg} {sps : List Spec} {s : State} {o : Operands} (ho : evalOperands 2 [.rw, .rl] sps s = .ok o)
    (hi : Issuable s) (hq : Quiet s) (hv : r = .vlr ∨ r = .vcr → (o.value 1).lo.toNat < 128) :
    issue (.mtvp r) sps s = .next { afterOperands o with
      vp := writeCtrl r (o.value 1).lo s.vp, draws := o.state.draws + 512 } := by
  have haccept : Acceptable (.mtvp r) sps o s := by
    rw [Acceptable, staticStop_mtvp]
    split
    · rename_i hr
      exact if_pos (hv hr)
    · rfl
  rw [issue_operate (.mtvp r) sps s o ho hi hq haccept rfl (fun h => Bool.noConfusion h), executed_mtvp s.vp rfl rfl rfl]
  rfl

/-- Settles O29: the written half of VMR and the other one. -/
theorem moveToMask : Obligations.MoveToMask := by
  intro a b i r s o hform ho hi hq
  have hr : (i = r.mtvpForm a b ∨ i = .mtvp a b ∧ ctrlOfRegnum s.cfg.regnum ((o.value 0).truncate 16) = some r) ∧
      (r = .vmrlo ∨ r = .vmrhi) := by
    rcases hform with ⟨hi, rfl⟩ | ⟨hi, rfl⟩ | ⟨hi, hr, hn⟩
    exacts [⟨.inl hi, .inl rfl⟩, ⟨.inl hi, .inr rfl⟩, ⟨.inr ⟨hi, hn⟩, hr⟩]
  obtain ⟨hform, hr⟩ := hr
  have hexec := (exec_mtvp hform ho).trans
    (issue_mtvp ho hi hq (by rcases hr with rfl | rfl <;> exact fun h => h.elim CtrlReg.noConfusion CtrlReg.noConfusion))
  refine ⟨_, hexec, rfl, ?_⟩
  rcases hr with rfl | rfl
  · exact ⟨rfl, fun _ => ⟨Quad.lo_mk _ _, Quad.hi_mk _ _⟩, fun h => CtrlReg.noConfusion h⟩
  · exact ⟨rfl, fun h => CtrlReg.noConfusion h, fun _ => ⟨Quad.hi_mk _ _, Quad.lo_mk _ _⟩⟩

/-- Settles O30: a source of more than seven bits is refused before the instruction is sent, and any other is written whole. -/
theorem moveToLengthAndCount : Obligations.MoveToLengthAndCount := by
  intro a b i r s o hform ho hi hq
  have hr : (i = r.mtvpForm a b ∨ i = .mtvp a b ∧ ctrlOfRegnum s.cfg.regnum ((o.value 0).truncate 16) = some r) ∧
      (r = .vlr ∨ r = .vcr) := by
    rcases hform with ⟨hi, rfl⟩ | ⟨hi, rfl⟩ | ⟨hi, hr, hn⟩
    exacts [⟨.inl hi, .inl rfl⟩, ⟨.inl hi, .inr rfl⟩, ⟨.inr ⟨hi, hn⟩, hr⟩]
  obtain ⟨hform, hr⟩ := hr
  rw [exec_mtvp hform ho]
  refine ⟨fun hv => issue_refused ho hi ?_, fun hv => ⟨_, issue_mtvp ho hi hq fun _ => hv, rfl, ?_⟩⟩
  · rw [refusalOf, staticStop_mtvp, if_pos hr, if_neg (by omega)]
  · have hseven : ((o.value 1).lo.extractLsb' 0 7).toNat = (o.value 1).lo.toNat := by
      simpa using Nat.mod_eq_of_lt hv
    rcases hr with rfl | rfl
    · exact ⟨fun _ => ⟨rfl, hseven⟩, fun h => CtrlReg.noConfusion h⟩
    · exact ⟨fun h => CtrlReg.noConfusion h, fun _ => ⟨rfl, hseven⟩⟩

end Sys2Proof.Machine
end

section
/-! MFVP and its forms on an idle vector processor (R350 to R359). -/

namespace Sys2Proof.Machine

/-! ### Which MFVP an instruction is -/

/-- The form of MFVP for a function. -/
def MfvpFn.form (fn : MfvpFn) (regnum dst : Spec) : Instr :=
  match fn with
  | .read .vcr => .mfvcr regnum dst
  | .read .vlr => .mfvlr regnum dst
  | .read .vmrlo => .mfvmrlo regnum dst
  | .read .vmrhi => .mfvmrhi regnum dst
  | .sync => .sync regnum dst
  | .msync => .msync regnum dst

/-- The instruction is MFVP with a function, by its form or by its register number (R350). -/
def IsMfvp (fn : MfvpFn) (a d : Spec) (s : State) (o : Operands) (i : Instr) : Prop :=
  i = fn.form a d ∨ i = .mfvp a d ∧ mfvpOfRegnum s.cfg.regnum ((o.value 0).truncate 16) = some fn

theorem mfvpOfRegnum_ctrl {c : RegNums} {n : Word} {r : CtrlReg} (h : ctrlOfRegnum c n = some r) :
    mfvpOfRegnum c n = some (.read r) := by
  rw [mfvpOfRegnum, h]

/-- With nothing queued an MFVP that no test turns away waits for nothing (R351). -/
theorem issueMfvp_idle {sel : Word → Option MfvpFn} {sps : List Spec} {fn : MfvpFn} {s : State} {o : Operands}
    (ho : evalOperands 2 [.rw, .wl] sps s = .ok o) (hsel : sel ((o.value 0).truncate 16) = some fn) (hi : Issuable s)
    (hq : s.vp.queue = []) : issueMfvp sel sps s = finishMfvp fn o s o.state := by
  obtain ⟨-, hvp, -⟩ := (evalOperands_frame _ _ _ _ _ ho).fields
  have hmf : o.state.vp.mf = false := hvp ▸ hi.2.2.2.1
  have hqueue : o.state.vp.queue = [] := hvp ▸ hq
  simp only [issueMfvp, withVectorOperands, ho, turnedAway_none s hi, hsel, readyToSend, retrySuspended_none _ hmf,
    makeRoom_next _ hqueue, andThen_next, queueFull_empty _ hqueue, Bool.false_eq_true, if_false,
    whileRetrying_empty _ hqueue, pursue_empty _ _ _ hqueue]

theorem exec_mfvp {fn : MfvpFn} {a d : Spec} {s : State} {o : Operands} {i : Instr} (hform : IsMfvp fn a d s o i)
    (ho : evalOperands 2 [.rw, .wl] [a, d] s = .ok o) (hi : Issuable s) (hq : s.vp.queue = []) :
    exec i s = finishMfvp fn o s o.state := by
  rcases hform with rfl | ⟨rfl, hn⟩
  · have hissue : exec (fn.form a d) s = issueMfvp (fun _ => some fn) [a, d] s := by
      rcases fn with r | _ | _
      · cases r <;> rfl
      · rfl
      · rfl
    exact hissue.trans (issueMfvp_idle ho rfl hi hq)
  · exact issueMfvp_idle ho hn hi hq

/-! ### An MFVP that reports -/

/-- Where nothing is queued it does not show whether the vector processor has become idle before the report (R44). -/
theorem idleAtFault_empty {s : State} (h : s.vp.queue = []) (fn : MfvpFn) (may : Quad) :
    idleAtFault fn may s = .next s ∨ idleAtFault fn may s = .next s.spend := by
  have hdrain : drain s.spend = .next s.spend := drain_empty _ h
  cases fn with
  | read r => exact .inl rfl
  | sync | msync =>
    simp only [idleAtFault, hdrain]
    split
    · exact .inr rfl
    · exact .inl rfl

/-- What the free values used and the side effects of the operands have changed is undone (R424). -/
theorem undoOperands_registersOnly {s t : State} (h : RegistersOnly s t) : undoOperands s t = { s with draws := t.draws } := by
  rw [h]
  rfl

theorem finishMfvp_reports {fn : MfvpFn} {o : Operands} {orig s : State} (hq : s.vp.queue = []) (hs : RegistersOnly orig s)
    (hm : mustReportArithmetic fn s = true) :
    ∃ n, finishMfvp fn o orig s = takeDisabled { orig with cpu := { orig.cpu with venSeen := false }, draws := n } := by
  have hreport (u : State) (may : Quad) (hu : mustReportArithmetic fn u = true) : reportsArithmetic fn may u = true := by
    rw [reportsArithmetic, hu, Bool.true_or]
  rcases idleAtFault_empty hq fn (miscDraw s.draws 0) with hidle | hidle
  · refine ⟨s.spend.draws, ?_⟩
    simp only [finishMfvp, hidle, andThen_next, hreport s _ hm, if_true,
      undoOperands_registersOnly (hs.trans (spend_registersOnly _))]
  · refine ⟨s.spend.spend.draws, ?_⟩
    simp only [finishMfvp, hidle, andThen_next, hreport s.spend _ hm, if_true,
      undoOperands_registersOnly ((hs.trans (spend_registersOnly _)).trans (spend_registersOnly _))]

/-- Settles O34: what the result depends on must be reported, and the operands' side effects are undone before the fault. -/
theorem mfvpReportsArithmetic : Obligations.MfvpReportsArithmetic := by
  intro a d i fn s o hform hdep ho hi hquiet
  have hq := hquiet.2.1
  have hs := evalOperands_frame _ _ _ _ _ ho
  have hvp := hs.fields.2.1
  have hqueue : o.state.vp.queue = [] := hvp ▸ hq
  have hi' : IsMfvp fn a d s o i := by
    rcases hform with ⟨h, rfl⟩ | ⟨h, rfl⟩ | ⟨h, rfl⟩ | ⟨h, rfl⟩ | ⟨h, rfl⟩ | h
    case inr.inr.inr.inr.inr => exact .inr h
    all_goals exact .inl h
  have hmust : mustReportArithmetic fn o.state = true := by
    have htaint : (viewAll o.state).p.taint = s.vp.taint := by rw [viewAll_empty _ hqueue, hvp]
    simp only [mustReportArithmetic, htaint, hvp]
    rcases hdep with ⟨rfl, h⟩ | ⟨rfl, h⟩ | ⟨rfl, h⟩ | ⟨rfl, h⟩ | ⟨rfl, h⟩
    exacts [h, h, h, decide_eq_true h, decide_eq_true h]
  rw [exec_mfvp hi' ho hi hq]
  exact finishMfvp_reports hqueue hs hmust

/-! ### An MFVP that completes -/

/-- The state in which an MFVP delivers: after MSYNC every write is visible to both processors (R102). -/
def mfvpSeen (fn : MfvpFn) (s : State) : State :=
  match fn with
  | .msync => s.flushAll
  | _ => s.prompt

/-- With nothing unreported and nothing queued an MFVP completes (R351). -/
theorem finishMfvp_completes {fn : MfvpFn} {o : Operands} {orig s : State} (hq : s.vp.queue = []) (hpmf : s.vp.pmf = false)
    (hu : NothingUnreported s) : finishMfvp fn o orig s =
      .next ((writeDest (o.dest 1) (mfvpValue fn s) (mfvpSeen fn s).spend).setPc o.next) := by
  obtain ⟨hpending, htaint, hlate⟩ := hu
  have hmust : mustReportArithmetic fn s = false := by
    have hview : (viewAll s).p.taint = {} := by rw [viewAll_empty s hq, htaint]
    simp only [mustReportArithmetic, hview, hpending]
    rcases fn with r | _ | _
    · cases r <;> rfl
    · rfl
    · rfl
  have harith (may : Quad) : reportsArithmetic fn may s = false := by rw [reportsArithmetic, hmust, hpending, hlate]; rfl
  have hmm (may : Quad) : reportsMm fn may s = false := by rw [reportsMm, mustReportMm, hpmf]; rfl
  have hidle (may : Quad) : idleAtFault fn may s = .next s := by
    cases fn with
    | read r => rfl
    | sync | msync => simp only [idleAtFault, harith, hmm, Bool.or_false, Bool.false_and, Bool.false_eq_true, if_false]
  simp only [finishMfvp, hidle, andThen_next, harith, hmm, stillWanted_empty s _ hq, Bool.false_eq_true, if_false]
  rfl

theorem prompt_idle {s : State} (h : s.vp.vbuf = []) : s.prompt = s := by
  rw [State.prompt, flushVector_empty s h, ite_self]

/-- An MFVP that completes leaves the vector processor as it was, where every vector write is visible. -/
theorem mfvpSeen_vp {fn : MfvpFn} {s : State} (h : s.vp.vbuf = []) : (mfvpSeen fn s).vp = s.vp := by
  unfold mfvpSeen
  split
  · rw [State.flushAll_vp, ← h]
  · rw [prompt_idle h]

/-- MSYNC changes no byte that the scalar processor reads (R102). -/
theorem mfvpSeen_scalarByte {fn : MfvpFn} {s : State} (h : s.vp.vbuf = []) (hm : fn = .msync → s.mem.wf = true) (x : Nat) :
    (mfvpSeen fn s).scalarByte x = s.scalarByte x := by
  unfold mfvpSeen
  split
  · exact (flushAll_read (hm rfl) x).trans (by rw [vectorByte_of_vbuf_nil h]; rfl)
  · rw [prompt_idle h]

/-- The general registers and the PSL when an MFVP delivers. -/
theorem mfvpSeen_cpu {fn : MfvpFn} {s : State} : (mfvpSeen fn s).cpu = { s.cpu with wbuf := (mfvpSeen fn s).cpu.wbuf } := by
  unfold mfvpSeen State.prompt
  split
  · rfl
  · split <;> rfl

/-- A destination in memory reads back once the instruction is over. -/
theorem writeDest_memory {pas : List Nat} {d : Operand} (hd : d = .memory pas) (hl : pas.length = 4) (hn : pas.Nodup) (v : Long)
    (u : State) (next : Long) : ((writeDest d v u).setPc next).scalarRead pas = v.toNat := by
  have hbyte (a : Nat) (_ : a ∈ pas) : ((writeDest d v u).setPc next).scalarByte a =
      (lastCell (cellsAt pas v.toNat) a).getD (u.scalarByte a) := by
    rw [hd]
    exact scalarByte_scalarWrite u _ a
  rw [scalarRead_cellsAt hn hbyte, hl]
  exact Nat.mod_eq_of_lt v.isLt

/-- Writing a destination leaves every byte that it does not name, as the scalar processor reads it. -/
theorem writeDest_scalarByte {d : Operand} {x : Nat} (h : ∀ pas, d = .memory pas → x ∉ pas) (v : Long) (u : State) :
    (writeDest d v u).scalarByte x = u.scalarByte x := by
  cases d with
  | memory pas =>
    refine (scalarByte_scalarWrite u _ x).trans ?_
    rw [lastCell_cellsAt_none (h pas rfl)]
    rfl
  | register n =>
    show (u.setReg n v).scalarByte x = _
    rw [State.scalarByte, State.setReg_cpu, writeReg_frame]
    rfl
  | value _ | address _ => rfl

/-- What every MFVP that completes leaves (R351): but for the destination only memory and the buffered writes that MSYNC drains. -/
theorem exec_mfvp_completes {fn : MfvpFn} {a d : Spec} {s : State} {o : Operands} {i : Instr} (hform : IsMfvp fn a d s o i)
    (ho : evalOperands 2 [.rw, .wl] [a, d] s = .ok o) (hi : Issuable s) (hq : Quiet s) (hu : NothingUnreported s)
    (hm : fn = .msync → s.mem.wf = true) :
    exec i s = .next ((writeDest (o.dest 1) (mfvpValue fn o.state) (mfvpSeen fn o.state).spend).setPc o.next) ∧
    let t := (writeDest (o.dest 1) (mfvpValue fn o.state) (mfvpSeen fn o.state).spend).setPc o.next
    t.vp = s.vp ∧ t.mem = (mfvpSeen fn o.state).mem ∧ t.cpu.pc = o.next ∧ t.cpu.psl = s.cpu.psl ∧
      (∀ n, o.dest 1 ≠ .register n → SameRegister n o.state t) ∧
      ∀ x, (∀ pas, o.dest 1 = .memory pas → x ∉ pas) → t.scalarByte x = s.scalarByte x := by
  obtain ⟨hsched, hqueue, hvbuf, hhalted⟩ := hq
  obtain ⟨-, hvp, hmem, -, -, -, -, hpsl, hwbuf, -⟩ := (evalOperands_frame _ _ _ _ _ ho).fields
  have hvbuf' : o.state.vp.vbuf = [] := hvp ▸ hvbuf
  have hbyte (x : Nat) : o.state.scalarByte x = s.scalarByte x := by rw [State.scalarByte, hwbuf, hmem]; rfl
  have hfinish := finishMfvp_completes (fn := fn) (o := o) (orig := s) (s := o.state) (hvp ▸ hqueue) (hvp ▸ hi.2.2.1)
    (by unfold NothingUnreported; rw [hvp]; exact hu)
  refine ⟨(exec_mfvp hform ho hi hqueue).trans hfinish, ?_, ?_, rfl, ?_, fun n hn => ?_, fun x hx => ?_⟩
  · rw [State.setPc_vp, writeDest_keeps, ← hvp]
    exact mfvpSeen_vp hvbuf'
  · rw [State.setPc_mem, writeDest_keeps]
    rfl
  · rw [State.setPc_cpu, writeDest_keeps]
    exact (congrArg Scalar.psl mfvpSeen_cpu).trans hpsl
  · have hseen : SameRegister n o.state (mfvpSeen fn o.state).spend := by
      unfold SameRegister
      rw [State.spend_cpu, mfvpSeen_cpu]
      rfl
    exact (writeDest_sameRegister hn _ _).trans hseen
  · refine (writeDest_scalarByte hx (mfvpValue fn o.state) (mfvpSeen fn o.state).spend).trans ?_
    exact (mfvpSeen_scalarByte hvbuf' (by rw [hmem]; exact hm) x).trans (hbyte x)

/-- The seven bits of VLR and of VCR are zero-extended, and each half of VMR is a longword (R352, R353, R358, R359). -/
theorem toNat_ctrlImage (r : CtrlReg) (p : Vp) : (ctrlImage r p).toNat =
    match r with
    | .vcr => p.vcr.toNat
    | .vlr => p.vlr.toNat
    | .vmrlo => p.vmr.toNat % 2 ^ 32
    | .vmrhi => p.vmr.toNat / 2 ^ 32 := by
  have hseven (x : BitVec 7) : (x.zeroExtend 32).toNat = x.toNat := by
    have hx := x.isLt
    rw [BitVec.toNat_setWidth]
    omega
  cases r with
  | vcr => exact hseven p.vcr
  | vlr => exact hseven p.vlr
  | vmrlo => simp [ctrlImage, Quad.lo]
  | vmrhi =>
    have hv := p.vmr.isLt
    simp only [ctrlImage, Quad.hi, BitVec.extractLsb'_toNat, Nat.shiftRight_eq_div_pow]
    omega

/-- Settles O32: nothing queued, the value is that of the register. -/
theorem readControlRegisters : Obligations.ReadControlRegisters := by
  intro a d i r s o hform ho hi hq hu v
  obtain ⟨-, hvp, hmem, -⟩ := (evalOperands_frame _ _ _ _ _ ho).fields
  have hi' : IsMfvp (.read r) a d s o i := by
    rcases hform with ⟨h, rfl⟩ | ⟨h, rfl⟩ | ⟨h, rfl⟩ | ⟨h, rfl⟩ | ⟨h, hn⟩
    case inr.inr.inr.inr => exact .inr ⟨h, mfvpOfRegnum_ctrl hn⟩
    all_goals exact .inl h
  have hvalue : (mfvpValue (.read r) o.state).toNat = v := by
    simp only [mfvpValue, viewAll_empty _ (show o.state.vp.queue = [] from hvp ▸ hq.2.1), hvp]
    exact toNat_ctrlImage r s.vp
  obtain ⟨hexec, htvp, htmem, hpc, hpsl, hregs, hbytes⟩ := exec_mfvp_completes hi' ho hi hq hu MfvpFn.noConfusion
  have hseen : mfvpSeen (.read r) o.state = o.state := prompt_idle (hvp ▸ hq.2.2.1)
  refine ⟨_, hexec, htvp, htmem.trans (by rw [hseen, hmem]), hpc, hpsl, fun n hd hn => ?_, fun pas hd hn => ?_, hregs, hbytes⟩
  · rw [← hvalue, hd]
    exact congrArg BitVec.toNat (readReg_writeReg _ n _ 0 hn)
  · rw [← hvalue]
    exact writeDest_memory hd (dest_longPlace ho 1 pas hd) hn _ _ _

/-- Settles O33: MSYNC delivers in the state in which every write is visible, SYNC in the state after the operands. -/
theorem synchronisationCompletes : Obligations.SynchronisationCompletes := by
  intro a d i m s o hform ho hi hq hu hwf
  obtain ⟨-, hvp, hmem, -, -, -, -, -, hwbuf, -⟩ := (evalOperands_frame _ _ _ _ _ ho).fields
  have hvbuf : o.state.vp.vbuf = [] := hvp ▸ hq.2.2.1
  have hi' : IsMfvp (if m then .msync else .sync) a d s o i := by
    rcases hform with ⟨h, rfl⟩ | ⟨h, rfl⟩ | h
    exacts [.inl h, .inl h, .inr h]
  obtain ⟨hexec, htvp, htmem, hpc, hpsl, hregs, hbytes⟩ := exec_mfvp_completes hi' ho hi hq hu fun _ => hwf
  refine ⟨_, hexec, htvp, hpc, hpsl, ?_, ?_, hregs, hbytes⟩
  · rintro rfl
    exact htmem.trans (hmem ▸ congrArg State.mem (prompt_idle hvbuf))
  · rintro rfl x
    refine (congrArg (Memory.read · x) htmem).trans ?_
    refine (flushAll_read (hmem ▸ hwf) x).trans ?_
    rw [vectorByte_of_vbuf_nil hvbuf, hwbuf, hmem]
    rfl

end Sys2Proof.Machine
end

section
/-! MTPR to VPSR (R371 to R379): the bits that writing one clears, VEN, and the reset. -/

namespace Sys2Proof.Machine

/-! ### The source -/

/-- A longword with no bit outside a mask is its own part under the mask. -/
theorem and_eq_and_of_mask {v m : Long} (h : v &&& ~~~m = 0) {a b : Long} (hab : m &&& a = m &&& b) : v &&& a = v &&& b := by
  have hv : v &&& m = v := BitVec.eq_of_getLsbD_eq fun i _ => by
    have hbit := (and_not_eq_zero_iff v m).mp h i
    rw [BitVec.getLsbD_and]
    cases hi : v.getLsbD i with
    | false => rfl
    | true => rw [hbit hi]; rfl
  rw [← hv, BitVec.and_assoc, BitVec.and_assoc, hab]

/-- A bit outside the mask is zero. -/
theorem getLsbD_of_mask {v m : Long} (h : v &&& ~~~m = 0) {n : Nat} (hn : m.getLsbD n = false) : v.getLsbD n = false := by
  cases hv : v.getLsbD n with
  | false => rfl
  | true => exact ((and_not_eq_zero_iff v m).mp h n hv).symm.trans hn

theorem toNat_mod_sixteen (v : Long) : v.toNat % 16 = (v &&& 15).toNat := (Nat.and_two_pow_sub_one_eq_mod v.toNat 4).symm

/-- VEN and the write-one-to-clear bits are no bad setting of VPSR (R371, R376). -/
theorem badVpsr_flags {v : Long} (hv : v &&& ~~~0x030000E1 = 0) : badVpsr v = false := by
  have hreserved : v &&& 0x7CFFFF10 = 0 := (and_eq_and_of_mask hv (b := 0) (by decide)).trans BitVec.and_zero
  have hlow : v &&& 15 = v &&& 1 := and_eq_and_of_mask hv (by decide)
  have hsetting : possibleSetting v = true := by
    rw [possibleSetting, toNat_mod_sixteen, hlow]
    rcases Nat.mod_two_eq_zero_or_one v.toNat with h | h <;> rw [BitVec.toNat_and] <;>
      simp [Nat.and_one_is_mod, h]
  rw [badVpsr, hreserved, hsetting]
  rfl

/-! ### VEN -/

/-- Where no hardware error has been reported an enable flushes nothing (R372). -/
theorem writeVen_vp {s : State} (hf : s.vp.flushOnEnable = false) (b : Bool) :
    writeVen b s = s.setVp { s.vp.setVpsr 0 b with impUnseen := s.vp.impUnseen && !b } := by
  rw [writeVen, hf, Bool.and_false]
  rfl

/-- Without RST, STS and RLD an MTPR to VPSR clears bits and writes VEN (R371). -/
theorem mtprVpsr_flags {v : Long} (hv : v &&& ~~~0x030000E1 = 0) (s : State) :
    mtprVpsr v s = .next (rememberVen (writeVen (v.getLsbD 0) (clearBits v s))) := by
  have h1 : v.getLsbD 1 = false := getLsbD_of_mask hv (by decide)
  have h2 : v.getLsbD 2 = false := getLsbD_of_mask hv (by decide)
  have h3 : v.getLsbD 3 = false := getLsbD_of_mask hv (by decide)
  simp only [mtprVpsr, vpsrReset, vpsrStore, vpsrReload, h1, h2, h3, Bool.false_and, Bool.false_eq_true, if_false, andThen_next]

/-- MTPR to VPSR leaves the general registers as the operands do. -/
theorem execMtpr_flags {a b : Spec} {s : State} {o : Operands} (ho : evalOperands 1 [.rl, .rl] [a, b] s = .ok o)
    (hm : s.mode = 0) (h90 : (o.value 1).lo = 0x90) (hp : s.cfg.vpPresent = true)
    (hv : (o.value 0).lo &&& ~~~0x030000E1 = 0) :
    execMtpr a b s = .next (rememberVen (writeVen ((o.value 0).lo.getLsbD 0)
      (clearBits (o.value 0).lo (finishIpr (o.value 0).lo o.next o.state)))) :=
  (execMtpr_vpsr ho hm h90 hp (badVpsr_flags hv)).trans (mtprVpsr_flags hv _)

/-! ### MF -/

theorem setBit_eq_self {x : Long} {n : Nat} {b : Bool} (hn : n < 32) (h : x.getLsbD n = b) : setBit x n b = x :=
  BitVec.eq_of_getLsbD_eq fun i _ => by
    rw [getLsbD_setBit x hn]
    split
    · rename_i hi
      rw [hi, h]
    · rfl

/-- Clearing MF gives up what is suspended, which changes no register but those of results (R377). -/
theorem clearMf_cases (s : State) :
    (s.vp.mf = false ∧ clearMf s = s) ∨
      ∃ p : Vp, p.queue = ((entryViews s).map fun (x : View × QEntry) =>
          if x.2.suspended then abandoned s.cfg.chaining x.1 x.2 else x.2) ∧
        (s.vp.queue = [] → p.taint = s.vp.taint) ∧
        p = { s.vp with vpsr := setBit s.vp.vpsr 5 false, taint := p.taint, queue := p.queue } ∧ clearMf s = s.setVp p.retire := by
  cases hmf : s.vp.mf with
  | false => exact .inl ⟨rfl, by rw [clearMf, hmf]; rfl⟩
  | true =>
    refine .inr ⟨_, rfl, fun hq => ?_, rfl, by rw [clearMf, if_pos hmf]⟩
    show ({ s.vp.taint with mem := s.vp.taint.mem || s.vp.queue.any fun e => e.suspended && e.movedTainted } : Taint) = _
    rw [hq, List.any_nil, Bool.or_false]

theorem clearMf_frame (s : State) :
    clearMf s = s.setVp { s.vp with
      v := (clearMf s).vp.v, vlr := (clearMf s).vp.vlr, vmr := (clearMf s).vp.vmr, vcr := (clearMf s).vp.vcr
      taint := (clearMf s).vp.taint, queue := (clearMf s).vp.queue, vpsr := setBit s.vp.vpsr 5 false } := by
  rcases clearMf_cases s with ⟨hmf, h⟩ | ⟨p, -, -, hp, h⟩
  · rw [h, setBit_eq_self (by decide) hmf]
    rfl
  · obtain ⟨q, -, hr⟩ := retire_frame p
    rw [h, State.setVp_vp]
    generalize p.retire = r at hr
    rw [hr, hp]

/-- With nothing queued clearing MF does nothing else. -/
theorem clearMf_idle {s : State} (hq : s.vp.queue = []) :
    clearMf s = s.setVp { s.vp with vpsr := setBit s.vp.vpsr 5 false } := by
  rcases clearMf_cases s with ⟨hmf, h⟩ | ⟨p, hpq, hpt, hp, h⟩
  · rw [h, setBit_eq_self (by decide) hmf]
    rfl
  · have hnone : p.queue = s.vp.queue := by rw [hpq, entryViews, hq]; rfl
    rw [h, retire_nil p (hnone.trans hq), hp, hpt hq, hnone]

/-- A suspended instruction that is given up is suspended no more (R377). -/
theorem suspended_abandoned (chaining : Bool) (w : View) (e : QEntry) : (abandoned chaining w e).suspended = false := by
  unfold abandoned
  split
  · split <;> rfl
  · rfl

theorem clearMf_suspended {s : State} (hmf : s.vp.mf = true) : ∀ e ∈ (clearMf s).vp.queue, e.suspended = false := by
  rcases clearMf_cases s with ⟨h, -⟩ | ⟨p, hq, -, -, h⟩
  · exact Bool.noConfusion (h.symm.trans hmf)
  · obtain ⟨q, hsuffix, hr⟩ := retire_frame p
    intro e he
    have he' : e ∈ p.queue := by
      refine hsuffix.mem ?_
      rwa [h, State.setVp_vp, hr] at he
    rw [hq, List.mem_map] at he'
    obtain ⟨x, -, rfl⟩ := he'
    split
    · exact suspended_abandoned _ _ _
    · rename_i hs
      exact Bool.eq_false_iff.mpr hs

/-! ### The bits that writing one clears -/

/-- One of the bits of VPSR, cleared where a one is written to it. -/
def clearedBit (v : Long) (n : Nat) (x : Long) : Long := if v.getLsbD n then setBit x n false else x

theorem getLsbD_clearedBit (v x : Long) {n : Nat} (hn : n < 32) (i : Nat) :
    (clearedBit v n x).getLsbD i = (x.getLsbD i && !(v.getLsbD i && decide (i = n))) := by
  unfold clearedBit
  by_cases hi : i = n
  · subst hi
    cases hv : v.getLsbD i <;> simp [getLsbD_setBit x hn]
  · cases hv : v.getLsbD n <;> simp [getLsbD_setBit x hn, hi]

/-- The state after the MF part of an MTPR to VPSR (R377). -/
def afterMf (v : Long) (s : State) : State := if v.getLsbD 5 then clearMf s else s

theorem ite_clear (v : Long) (n : Nat) (s : State) :
    (if v.getLsbD n then s.setVp (s.vp.setVpsr n false) else s) = s.setVp { s.vp with vpsr := clearedBit v n s.vp.vpsr } := by
  unfold clearedBit
  split <;> rfl

/-- With PMF what it announces is discarded (R379). -/
theorem ite_clearPmf (v : Long) (s : State) :
    (if v.getLsbD 6 then s.setVp { s.vp.setVpsr 6 false with pendingMm := none } else s) =
      s.setVp { s.vp with
        vpsr := clearedBit v 6 s.vp.vpsr, pendingMm := if v.getLsbD 6 then none else s.vp.pendingMm } := by
  unfold clearedBit
  split <;> rfl

/-- Besides MF, and AEX, the bits are flags alone, but for what PMF announces (R377, R379). -/
theorem clearBits_eq {v : Long} (h7 : v.getLsbD 7 = false) (s : State) :
    clearBits v s = (afterMf v s).setVp { (afterMf v s).vp with
      vpsr := clearedBit v 25 (clearedBit v 24 (clearedBit v 6 (afterMf v s).vp.vpsr))
      pendingMm := if v.getLsbD 6 then none else (afterMf v s).vp.pendingMm } := by
  unfold clearBits
  extract_lets s₁ cleared s₂ s₃ s₄
  have h₂ : s₂ = _ := ite_clearPmf v s₁
  have h₃ : s₃ = _ := ite_clear v 24 s₂
  have h₄ : s₄ = _ := ite_clear v 25 s₃
  rw [if_neg (Bool.eq_false_iff.mp h7), h₄, h₃, h₂]
  rfl

theorem afterMf_frame (v : Long) (s : State) :
    afterMf v s = s.setVp { s.vp with
      v := (afterMf v s).vp.v, vlr := (afterMf v s).vp.vlr, vmr := (afterMf v s).vp.vmr, vcr := (afterMf v s).vp.vcr
      taint := (afterMf v s).vp.taint, queue := (afterMf v s).vp.queue, vpsr := clearedBit v 5 s.vp.vpsr } := by
  unfold afterMf clearedBit
  split
  · exact clearMf_frame s
  · rfl

theorem afterMf_idle {v : Long} {s : State} (h : v.getLsbD 5 = false ∨ s.vp.queue = []) :
    afterMf v s = s.setVp { s.vp with vpsr := clearedBit v 5 s.vp.vpsr } := by
  unfold afterMf clearedBit
  split
  · rename_i h5
    exact clearMf_idle (h.resolve_left fun h => Bool.noConfusion (h.symm.trans h5))
  · rfl

/-- VPSR after an MTPR that writes ones to MF, PMF, IMP and IVO at most, with VEN (R371, R372). -/
theorem vpsr_written {v : Long} (hv : v &&& ~~~0x03000061 = 0) (x : Long) :
    setBit (clearedBit v 25 (clearedBit v 24 (clearedBit v 6 (clearedBit v 5 x)))) 0 (v.getLsbD 0) =
      ((x &&& ~~~v) &&& ~~~1) ||| (v &&& 1) := by
  refine BitVec.eq_of_getLsbD_eq fun i hi => ?_
  have hbits : v.getLsbD i = true → i = 0 ∨ i = 5 ∨ i = 6 ∨ i = 24 ∨ i = 25 := fun h => by
    have hm := (and_not_eq_zero_iff v _).mp hv i h
    clear h hv
    revert i
    decide
  simp only [getLsbD_setBit _ (show 0 < 32 by decide), getLsbD_clearedBit _ _ (show 5 < 32 by decide),
    getLsbD_clearedBit _ _ (show 6 < 32 by decide), getLsbD_clearedBit _ _ (show 24 < 32 by decide),
    getLsbD_clearedBit _ _ (show 25 < 32 by decide), BitVec.getLsbD_or, BitVec.getLsbD_and, BitVec.getLsbD_not]
  cases h : v.getLsbD i with
  | false => by_cases h0 : i = 0 <;> simp_all
  | true => rcases hbits h with rfl | rfl | rfl | rfl | rfl <;> simp_all

/-- What such an MTPR makes of the vector processor. -/
theorem writeVen_clearBits {v : Long} (hv : v &&& ~~~0x03000061 = 0) {s : State} (hf : s.vp.flushOnEnable = false) :
    writeVen (v.getLsbD 0) (clearBits v s) = s.setVp { (afterMf v s).vp with
      vpsr := ((s.vp.vpsr &&& ~~~v) &&& ~~~1) ||| (v &&& 1)
      pendingMm := if v.getLsbD 6 then none else s.vp.pendingMm
      impUnseen := s.vp.impUnseen && !v.getLsbD 0 } := by
  have hafter := afterMf_frame v s
  rw [clearBits_eq (getLsbD_of_mask hv (n := 7) (by decide)), ← vpsr_written hv]
  generalize afterMf v s = u at hafter
  rw [writeVen_vp (by rw [State.setVp_vp, hafter]; exact hf), hafter]
  rfl

end Sys2Proof.Machine
namespace Sys2Proof

open Machine

/-- Settles O46: the MF part comes first and keeps every register but those of results; the rest are single bits. -/
theorem mtprVpsr : Obligations.MtprVpsr := by
  intro a b s o ho hm h90 hp hf v hv
  obtain ⟨-, hvp, hmem, -, -, -, -, hpsl, hwbuf, -, hven, -⟩ := (evalOperands_frame _ _ _ _ _ ho).fields
  have hflags : v &&& ~~~0x030000E1 = 0 := (and_eq_and_of_mask hv (b := 0) (by decide)).trans BitVec.and_zero
  have hexec := execMtpr_flags ho hm h90 hp hflags
  have hvp' : (finishIpr v o.next o.state).vp = s.vp := hvp
  rw [writeVen_clearBits hv (hvp'.symm ▸ hf), hvp'] at hexec
  refine ⟨_, hexec, rfl, rfl, fun h5 hmf => ?_, fun h => ?_, hmem, rfl, hven, hwbuf, finishIpr_sameRegister v o.next o.state,
    ?_, ?_, ?_, fun n h1 h2 h3 => ?_⟩
  · have hclear : afterMf v (finishIpr v o.next o.state) = clearMf (finishIpr v o.next o.state) := if_pos h5
    have hqueue := clearMf_suspended (s := finishIpr v o.next o.state) (hvp'.symm ▸ hmf)
    rwa [← hclear] at hqueue
  · rw [afterMf_idle (hvp'.symm ▸ h), hvp']
    rfl
  all_goals show (setNZ o.state.cpu.psl v).getLsbD _ = _; rw [getLsbD_setNZ]
  · rfl
  · rfl
  · rfl
  · rw [if_neg h1, if_neg h2, if_neg h3, hpsl]

end Sys2Proof
end

section
/-! MTPR to VPSR with AEX (R378) and with RST (R373): what is recorded is cleared, and what is pending given up. -/

namespace Sys2Proof.Machine

/-! ### AEX -/

/-- With AEX alone among the bits that writing one clears, what is recorded is cleared (R378). -/
theorem clearBits_aex {v : Long} (hv : v &&& ~~~0x81 = 0) (h7 : v.getLsbD 7 = true) (s : State) : clearBits v s = startClear s := by
  have h5 : v.getLsbD 5 = false := getLsbD_of_mask hv (by decide)
  have h6 : v.getLsbD 6 = false := getLsbD_of_mask hv (by decide)
  have h24 : v.getLsbD 24 = false := getLsbD_of_mask hv (by decide)
  have h25 : v.getLsbD 25 = false := getLsbD_of_mask hv (by decide)
  simp only [clearBits, h5, h6, h7, h24, h25, Bool.false_eq_true, if_false, if_true]

/-- What may still show of what a clear of AEX and VAER has cleared (R382). -/
theorem startClear_vp (s : State) :
    (startClear s).vp = { clearVaer s.vp with
      vaerOld := if s.sched.isEmpty then 0 else s.vp.vaer ||| s.vp.vaerOld
      aexLate := !s.sched.isEmpty && (s.vp.aexPending || s.vp.aexLate) } := by
  unfold startClear
  cases h : s.sched.isEmpty <;> rfl

theorem startClear_saved (s : State) :
    (startClear s).saved = s.saved.map fun r => { r with queue := r.queue.map QEntry.forget } := rfl

theorem vpsr_written_aex (v x : Long) :
    setBit (setBit x 7 false) 0 (v.getLsbD 0) = (x &&& ~~~0x81) ||| (v &&& 1) := by
  refine BitVec.eq_of_getLsbD_eq fun i hi => ?_
  rw [getLsbD_setBit _ (by decide), getLsbD_setBit _ (by decide), BitVec.getLsbD_or, BitVec.getLsbD_and, BitVec.getLsbD_and,
    BitVec.getLsbD_not]
  have hmask : (0x81 : Long).getLsbD i = (decide (i = 0) || decide (i = 7)) ∧ (1 : Long).getLsbD i = decide (i = 0) := by
    revert i
    decide
  rw [hmask.1, hmask.2]
  by_cases h0 : i = 0
  · simp [h0]
  · by_cases h7 : i = 7 <;> simp [h0, h7, hi]

end Sys2Proof.Machine
namespace Sys2Proof

open Machine

/-- Settles O48: of the bits that writing one clears only AEX is written; where the vector processor is not prompt, what is
cleared stays aside (`startClear_vp`). -/
theorem mtprVpsrClearsAex : Obligations.MtprVpsrClearsAex := by
  intro a b s o ho hm h90 hp hf hv
  obtain ⟨-, hvp, hmem, -, hsaved, -, hsched, -⟩ := (evalOperands_frame _ _ _ _ _ ho).fields
  have hvp' : (finishIpr (o.value 0).lo o.next o.state).vp = s.vp := hvp
  have hsched' : (finishIpr (o.value 0).lo o.next o.state).sched = s.sched := hsched
  have hmask : (o.value 0).lo &&& ~~~0x81 = 0 := by rcases hv with h | h <;> rw [h] <;> decide
  have h7 : (o.value 0).lo.getLsbD 7 = true := by rcases hv with h | h <;> rw [h] <;> decide
  have hexec := execMtpr_flags ho hm h90 hp
    ((and_eq_and_of_mask hmask (b := 0) (by decide)).trans BitVec.and_zero)
  rw [clearBits_aex hmask h7, writeVen_vp (by rw [startClear_vp, hvp']; exact hf), startClear_vp, hvp', hsched'] at hexec
  refine ⟨_, hexec, vpsr_written_aex _ _, rfl, rfl, rfl, rfl, rfl, hmem, finishIpr_sameRegister _ o.next o.state, rfl, rfl, rfl,
    ?_, fun h => ?_, fun h => ?_⟩
  · rw [← hsaved]
    rfl
  · rw [h]
    exact ⟨rfl, rfl⟩
  · rw [← List.isEmpty_eq_false_iff] at h
    rw [h]
    exact ⟨rfl, rfl, rfl⟩

end Sys2Proof
namespace Sys2Proof.Machine

/-! ### What giving up an instruction leaves alone -/

/-- What an instruction that is no compare goes into has VMR as it is (R22). -/
theorem vmr_onto {e : QEntry} (hw : e.op.writesMask = false) (p : Vp) : (e.onto p).vmr = p.vmr := by
  unfold QEntry.onto
  cases e.copy with
  | none => rfl
  | some c =>
    simp only [hw, Vp.overlay_vmr, Bool.false_eq_true, if_false]
    show (c.vmr &&& 0#64) ||| (p.vmr &&& BitVec.allOnes 64) = p.vmr
    rw [BitVec.and_zero, BitVec.zero_or, BitVec.and_allOnes]

/-- VLR, VMR and VCR, which an instruction with a vector register for its destination leaves alone, IOTA's count apart. -/
def SameControls (p q : Vp) : Prop := q.vlr = p.vlr ∧ q.vmr = p.vmr ∧ q.vcr = p.vcr

theorem settle_sameControls {e : QEntry} (hw : e.op.writesReg = true) (hi : e.op ≠ .iota) (p : Vp) :
    SameControls p (e.settle p) := by
  have hmask : e.op.writesMask = false := by
    obtain ⟨op, _⟩ := e
    cases op
    case intCompare | floatCompare => cases hw
    all_goals rfl
  have hframe := onto_frame e p
  have hvmr := vmr_onto hmask p
  have hsettle : SameControls (e.onto p) (e.settle p) := by
    unfold QEntry.settle
    obtain ⟨op, _⟩ := e
    cases op
    case iota => exact absurd rfl hi
    case intCompare | floatCompare | store | mtvp | vsync => cases hw
    all_goals exact ⟨rfl, rfl, rfl⟩
  obtain ⟨h1, h2, h3⟩ := hsettle
  refine ⟨h1.trans ?_, h2.trans hvmr, h3.trans ?_⟩ <;> rw [hframe]

/-- A load that is given up is one still, or leaves its destination free: in the same register. -/
theorem givenUp_load {e : QEntry} {sz : ElemSize} {ad : Addressing} (hop : e.op = .load sz ad) (chaining : Bool) (w : View)
    (p : Vp) :
    ((givenUp chaining w p e).op = .load sz ad ∨ (givenUp chaining w p e).op = .undefine ad) ∧
      (givenUp chaining w p e).cntrl = e.cntrl := by
  unfold givenUp
  split
  · exact ⟨.inl hop, rfl⟩
  · simp only [hop]
    exact ⟨.inr rfl, rfl⟩

/-- Giving up a load changes its destination register alone, besides what depends on an exception (R373). -/
theorem giveUp_load {e : QEntry} {sz : ElemSize} {ad : Addressing} (hop : e.op = .load sz ad) (chaining : Bool) (w : View)
    (p : Vp) :
    SameControls p (giveUp chaining p (w, e)) ∧
      ∀ r k, r ≠ fieldC e.cntrl → (giveUp chaining p (w, e)).elem r k = p.elem r k := by
  obtain ⟨hop', hc⟩ := givenUp_load hop chaining w p
  have hw : (givenUp chaining w p e).op.writesReg = true := by rcases hop' with h | h <;> rw [h] <;> rfl
  have hi : (givenUp chaining w p e).op ≠ .iota := by rcases hop' with h | h <;> rw [h] <;> exact nofun
  exact ⟨settle_sameControls hw hi p, fun r k hr => elem_settle_other _ p r k (hc ▸ hr)⟩

/-- An MTVMRLO that is given up has taken effect all the same (log entries 2, 52). -/
theorem vmr_giveUp_mtvmrlo {e : QEntry} (hop : e.op = .mtvp .vmrlo) (chaining : Bool) (w : View) (p : Vp) :
    (giveUp chaining p (w, e)).vmr = Quad.mk p.vmr.hi e.scalar.lo := by
  have hgiven : (givenUp chaining w p e).op = .mtvp .vmrlo ∧ (givenUp chaining w p e).scalar = e.scalar := by
    unfold givenUp
    split
    · exact ⟨hop, rfl⟩
    · simp only [hop]
      exact ⟨hop, rfl⟩
  obtain ⟨hop', hs⟩ := hgiven
  show ((givenUp chaining w p e).settle p).vmr = _
  rw [QEntry.settle, QEntry.settleOn, hop', hs]
  show Quad.mk ((givenUp chaining w p e).onto p).vmr.hi _ = _
  rw [vmr_onto (by rw [hop']; rfl)]

/-! ### What is discarded with the queue -/

theorem discardPending_nil {s : State} (hq : s.vp.queue = []) : discardPending s = s.vp := by
  unfold discardPending entryViews
  rw [hq]
  show ({ s.vp with queue := [] } : Vp) = s.vp
  rw [← hq]

theorem discardPending_single {s : State} {e : QEntry} (hq : s.vp.queue = [e]) :
    discardPending s = { giveUp s.cfg.chaining s.vp (viewAt s 0 e, e) with queue := [] } := by
  unfold discardPending entryViews
  rw [hq]
  rfl

theorem discardPending_pair {s : State} {e m : QEntry} (hq : s.vp.queue = [e, m]) :
    discardPending s = { giveUp s.cfg.chaining (giveUp s.cfg.chaining s.vp (viewAt s 0 e, e)) (viewAt s 1 m, m) with
      queue := [] } := by
  unfold discardPending entryViews
  rw [hq]
  rfl

/-! ### RST -/

/-- What a reset makes of the vector processor, where that runs promptly (R373). -/
theorem resetVp_vp {s : State} (hs : s.sched = []) :
    (resetVp s).vp = clearVaer { discardPending s with
      vpsr := 0, pendingMm := none, halted := false, flushOnEnable := false, impUnseen := false } := by
  unfold resetVp startClear
  rw [State.setVp_sched, hs]
  rfl

/-- With RST, alone or with VEN, an MTPR to VPSR resets the vector processor and writes VEN (R373). -/
theorem mtprVpsr_reset {v : Long} (hv : v = 2 ∨ v = 3) {s : State} (hb : busy s = false) :
    mtprVpsr v s = .next (rememberVen (writeVen (v.getLsbD 0) (resetVp s))) := by
  have h1 : v.getLsbD 1 = true := by rcases hv with h | h <;> rw [h] <;> decide
  have h2 : v.getLsbD 2 = false := by rcases hv with h | h <;> rw [h] <;> decide
  have h3 : v.getLsbD 3 = false := by rcases hv with h | h <;> rw [h] <;> decide
  have hclear : clearBits v (resetVp s) = resetVp s := by
    rcases hv with h | h <;> rw [h] <;>
      exact clearBits_none (by decide) (by decide) (by decide) (by decide) (by decide) _
  simp only [mtprVpsr, vpsrReset, vpsrStore, vpsrReload, h1, h2, h3, hb, Bool.false_and, Bool.false_eq_true, if_false, if_true,
    andThen_next, hclear]

theorem mtprVpsr_reset_busy {v : Long} (hv : v = 2 ∨ v = 3) {s : State} (hb : busy s = true) :
    mtprVpsr v s = .refused .resetWhileBusy := by
  have h1 : v.getLsbD 1 = true := by rcases hv with h | h <;> rw [h] <;> decide
  simp only [mtprVpsr, vpsrReset, h1, hb, if_true]
  rfl

end Sys2Proof.Machine
namespace Sys2Proof

open Machine

/-- Settles O47: what is pending is given up one by one, a load leaving the controls and the other registers alone, and an
MTVMRLO taking effect. -/
theorem mtprVpsrReset : Obligations.MtprVpsrReset := by
  intro a b s o ho hm h90 hp hv hs
  have hregs := evalOperands_frame _ _ _ _ _ ho
  obtain ⟨ht, -⟩ := finishIpr_frame hregs (o.value 0).lo o.next
  have hbusy : busy (finishIpr (o.value 0).lo o.next o.state) = busy s :=
    show busy o.state = busy s from busy_registersOnly hregs
  have hexec := execMtpr_vpsr ho hm h90 hp (by rcases hv with h | h <;> rw [h] <;> decide)
  generalize finishIpr (o.value 0).lo o.next o.state = u at ht hbusy hexec
  have hsched : u.sched = [] := by rw [ht]; exact hs
  have hdiscard : discardPending u = discardPending s := by rw [ht]; rfl
  have hmem : u.mem = s.mem := by rw [ht]
  refine ⟨fun hb => hexec.trans (mtprVpsr_reset_busy hv (hbusy.trans hb)), fun hb => ?_⟩
  rw [mtprVpsr_reset hv (hbusy.trans hb), writeVen_vp (by rw [resetVp_vp hsched]; rfl), resetVp_vp hsched, hdiscard] at hexec
  have hframe := discardPending_frame s
  refine ⟨_, hexec, ?_, rfl, rfl, rfl, rfl, ?_, ?_, hmem, fun hq => ?_, fun e sz ad hq hop => ?_,
    fun e m sz ad hq hop hmop => ?_⟩
  · show setBit (setBit 0 7 false) 0 _ = _
    rcases hv with h | h <;> rw [h] <;> decide
  · exact (congrArg Vp.vsar hframe :)
  · exact (congrArg Vp.tb hframe :)
  · have h := discardPending_nil hq
    exact ⟨(congrArg Vp.v h :), (congrArg Vp.vlr h :), (congrArg Vp.vmr h :), (congrArg Vp.vcr h :)⟩
  · have h := discardPending_single hq
    obtain ⟨⟨hvlr, hvmr, hvcr⟩, helem⟩ := giveUp_load hop s.cfg.chaining (viewAt s 0 e) s.vp
    exact ⟨(congrArg Vp.vlr h :).trans hvlr, (congrArg Vp.vmr h :).trans hvmr, (congrArg Vp.vcr h :).trans hvcr,
      fun r k hr => (congrArg (fun p : Vp => p.elem r k) h :).trans (helem r k hr)⟩
  · have h := congrArg Vp.vmr (discardPending_pair hq)
    obtain ⟨⟨-, hvmr, -⟩, -⟩ := giveUp_load hop s.cfg.chaining (viewAt s 0 e) s.vp
    have hlast : (discardPending s).vmr = Quad.mk s.vp.vmr.hi m.scalar.lo := by
      rw [h, ← hvmr]
      exact vmr_giveUp_mtvmrlo hmop _ _ _
    show (discardPending s).vmr.lo = _ ∧ (discardPending s).vmr.hi = _
    rw [hlast]
    exact ⟨Quad.lo_mk _ _, Quad.hi_mk _ _⟩

end Sys2Proof
end

section
/-! Hardware errors: how MFPR from VPSR and from VMAC reports them (R430 to R432). -/

namespace Sys2Proof.Machine

/-! ### What an error has stopped -/

/-- Of an instruction of which a goal wants every element, every open element is wanted. -/
theorem wantedOf_all {g : Goal} {e : QEntry} (hg : g.entry e = allElements) (s : State) (w : View) (n : Need) :
    wantedOf s w e g n = w.openElems e := by
  have hall : ∀ x : Quad, allElements ||| x = allElements := fun _ => BitVec.allOnes_or
  simp only [wantedOf, hg, hall, ite_self]
  exact BitVec.and_allOnes

/-- Where nothing stops the only pending instruction, and something of it is open that a goal wants, that is next. -/
theorem nextWanted_single {s : State} {g : Goal} {e : QEntry} (hq : s.vp.queue = [e]) (hfault : e.fault = none)
    (hcopy : e.copy = none) (hl : e.len.toNat ≤ 64) (hh : s.vp.halted = false) (hg : g.entry e = allElements)
    (hopen : View.openElems ⟨s.vp, {}⟩ e ≠ 0) : (nextWanted s g).isSome = true := by
  have hviews : entryViews s = [(⟨s.vp, {}⟩, e)] := by
    unfold entryViews
    rw [hq, ← viewAt_zero s hcopy]
    rfl
  have hrun : mayRun s 0 e = true :=
    mayRun_of_no_fault (fun x hx => by rw [hq, List.mem_singleton] at hx; rwa [hx]) hh (by rw [hq]; rfl)
  simpa [nextWanted, wanted, wantedFrom, hviews, wantedOf_all hg, hrun, runnable_head s e hl] using hopen

/-- An active element that is neither finished nor given up is open. -/
theorem openElems_ne_zero {p : Vp} {e : QEntry} {k : Fin 64} (hcopy : e.copy = none) (hactive : e.isActive p.vmr k = true)
    (hdone : e.done.getLsbD k = false) (hleft : e.left.getLsbD k = false) : View.openElems ⟨p, {}⟩ e ≠ 0 := fun h => by
  have hbit : (View.openElems ⟨p, {}⟩ e).getLsbD k = false := by rw [h]; simp
  rw [getLsbD_openElems, sees_none hcopy, hactive, hdone, hleft, decide_eq_true k.isLt] at hbit
  exact Bool.noConfusion hbit

/-- A hardware error has stopped the only pending instruction (R431, R432): something of it is open. -/
structure StopsAt (p : Vp) (e : QEntry) (k : Fin 64) : Prop where
  halted : p.halted = true
  queue : p.queue = [e]
  fault : e.fault = none
  copy : e.copy = none
  len : e.len.toNat ≤ 64
  active : e.isActive p.vmr k = true
  done : e.done.getLsbD k = false
  left : e.left.getLsbD k = false

theorem StopsAt.stoppedFor {s : State} {e : QEntry} {k : Fin 64} (h : StopsAt s.vp e k) {g : Goal}
    (hg : g.entry e = allElements) : stoppedFor g s = true := by
  rw [Machine.stoppedFor, h.halted, Bool.true_and]
  exact nextWanted_single h.queue h.fault h.copy h.len rfl hg
    (openElems_ne_zero h.copy h.active h.done h.left)

/-- Where nothing is pending, or a hardware error has stopped execution, BSY is clear (R44, R423). -/
theorem busy_of_stopped {s : State} (h : s.vp.queue = [] ∨ s.vp.halted = true) : busy s = false := by
  rcases h with h | h
  · simp [busy, entryViews, h]
  · simp [busy, mayRun, h]

/-- A wait does nothing while a hardware error has stopped execution (R423). -/
theorem pursue_halted {s : State} (hh : s.vp.halted = true) (stop : State → Bool) (goal : State → Goal) :
    pursue stop goal s = .next s := by
  have hwanted : nextWanted s (goal s) = none := by simp [nextWanted, mayRun, hh]
  have hcheck : nextCheck s (goal s) = none := by simp [nextCheck, mayRun, hh]
  unfold pursue
  cases 66 * s.vp.queue.length with
  | zero => rfl
  | succ fuel => simp only [pursueFuel, hwanted, hcheck, ite_self]

/-! ### The report -/

/-- A hardware error reported through VPSR<IMP>: S_VEN is clear, and the next vector instruction takes the disabled fault. -/
def impReported (s : State) : State :=
  { s with vp := reportImp s.cfg s.vp, cpu := { s.cpu with venSeen := false, venOld := none } }

theorem withReport_imp {s : State} (hc : s.cfg.hwErrorReport = .imp) (orig : State) (f : State → Out) :
    withReport true orig s f = f (impReported s) := by
  simp only [withReport, hc, if_true]
  rfl

/-- A machine check is taken with the general registers as before the operands (R424, R430). -/
theorem withReport_machineCheck {s : State} (hc : s.cfg.hwErrorReport = .machineCheck) (orig : State) (f : State → Out) :
    withReport true orig s f =
      takeException .machineCheck ((undoOperands orig s).setVp { s.vp with hwMem := false, hwOp := false }) := by
  have hc' : (undoOperands orig s).cfg.hwErrorReport = .machineCheck := hc
  simp only [withReport, hc, if_true, reportHardware, hc']
  rfl

/-- After the report BSY is as clear as before it. -/
theorem busy_impReported {s : State} (h : s.vp.queue = [] ∨ s.vp.halted = true) : busy (impReported s) = false := by
  have hframe : (reportImp s.cfg s.vp).queue = s.vp.queue ∧ (reportImp s.cfg s.vp).halted = s.vp.halted := by
    unfold reportImp
    split <;> exact ⟨rfl, rfl⟩
  obtain ⟨hqueue, hhalted⟩ := hframe
  exact busy_of_stopped (h.imp hqueue.trans hhalted.trans)

theorem vpsr_reportImp {c : Config} (hc : c.implementsImp = true) (p : Vp) :
    (reportImp c p).vpsr = (p.vpsr ||| 0x01000000) &&& ~~~1 := by
  unfold reportImp
  rw [hc]
  rfl

/-- What a report through VPSR<IMP> leaves of the vector processor's flags, and S_VEN, in whatever state it is seen. -/
structure ShowsImp (x : Long) (t : State) : Prop where
  vpsr : t.vp.vpsr = (x ||| 0x01000000) &&& ~~~1
  venSeen : t.cpu.venSeen = false
  hwMem : t.vp.hwMem = false
  hwOp : t.vp.hwOp = false
  flush : t.vp.flushOnEnable = true

/-! ### MFPR from VPSR -/

/-- Completing what an MTPR to VPSR began changes memory and the vector processor's buffers alone (R381, R382). -/
theorem completeMtpr_frame (s : State) :
    completeMtpr s = { s with
      mem := (completeMtpr s).mem
      vp := { s.vp with vaerOld := 0, aexLate := false, storing := [], vbuf := (completeMtpr s).vp.vbuf } } := by
  have all : ∀ (l : List (List Host.Cell)) (s : State),
      let t := l.foldl (fun s u => s.completeWrite u) s
      t = { s with mem := t.mem, vp := { s.vp with vbuf := t.vp.vbuf } } := by
    intro l
    induction l with
    | nil => exact fun _ => rfl
    | cons u l ih =>
      intro s
      have h := ih (s.completeWrite u)
      have hu := completeWrite_frame u s
      simp only [List.foldl_cons]
      generalize s.completeWrite u = r at h hu ⊢
      simp only at h
      generalize l.foldl _ r = t at h ⊢
      rw [h, hu]
  have h := all s.vp.storing s.clearNow
  unfold completeMtpr
  generalize s.vp.storing.foldl _ s.clearNow = t at h ⊢
  rw [h]
  rfl

/-- What MFPR from VPSR is to report: with nothing queued, an error of an instruction that accesses no memory, and any error that
has stopped one (R432). -/
def OperateError (p : Vp) : Prop :=
  (p.queue = [] ∧ p.hwOp = true) ∨
    ∃ e k, StopsAt p e k ∧ (p.hwMem = true ∨ p.hwOp = true) ∧ e.op.isMemory = false

theorem OperateError.met {s : State} (h : OperateError s.vp) :
    ((s.vp.hwOp && !busy s) || (s.vp.hwMem && stoppedFor operateGoal s)) = true := by
  rcases h with ⟨hq, hop⟩ | ⟨e, k, hstop, herr, hmem⟩
  · rw [hop, busy_of_stopped (.inl hq)]
    rfl
  · have hwanted : stoppedFor operateGoal s = true := hstop.stoppedFor (g := operateGoal) (if_neg (by rw [hmem]; exact nofun))
    rw [hwanted, busy_of_stopped (.inr hstop.halted)]
    rcases herr with h | h <;> simp [h]

theorem OperateError.stopped {p : Vp} (h : OperateError p) : p.queue = [] ∨ p.halted = true := by
  rcases h with ⟨hq, -⟩ | ⟨e, k, hstop, -⟩
  · exact .inl hq
  · exact .inr hstop.halted

theorem OperateError.completeMtpr {s : State} (h : OperateError s.vp) : OperateError (completeMtpr s).vp := by
  rw [completeMtpr_frame]
  rcases h with h | ⟨e, k, ⟨h1, h2, h3, h4, h5, h6, h7, h8⟩, herr⟩
  · exact .inl h
  · exact .inr ⟨e, k, ⟨h1, h2, h3, h4, h5, h6, h7, h8⟩, herr⟩

theorem mfprVpsr_reports {s : State} (h : OperateError s.vp) (o : Operands) (orig : State) :
    mfprVpsr o orig s = withReport true orig (completeMtpr s) fun u =>
      .next (delivered (u.vp.vpsrImage (busy u)) o (vpsrSeen u)) := by
  unfold mfprVpsr
  simp only [h.completeMtpr.met]
  rfl

/-- VPSR as MFPR delivers it, bit by bit (R36, R40, R43, R44). -/
theorem getLsbD_vpsrImage (b : Bool) (p : Vp) (i : Nat) :
    (p.vpsrImage b).getLsbD i = if i = 31 then b else (p.vpsr &&& 0x030000E1).getLsbD i := by
  rw [Vp.vpsrImage, getLsbD_setBit _ (by decide)]

/-! ### MFPR from VMAC -/

/-- What MFPR from VMAC is to report: with nothing queued, an error of a memory instruction, and any error that has stopped one
(R431). -/
def MemoryError (p : Vp) : Prop :=
  (p.queue = [] ∧ p.hwMem = true) ∨
    ∃ e k, StopsAt p e k ∧ (p.hwMem = true ∨ p.hwOp = true) ∧ e.op.isMemory = true

theorem MemoryError.met {s : State} (h : MemoryError s.vp) :
    (s.vp.hwMem || (s.vp.hwOp && stoppedFor memoryGoal s)) = true := by
  rcases h with ⟨-, hmem⟩ | ⟨e, k, hstop, herr, hmem⟩
  · rw [hmem]
    rfl
  · have hwanted : stoppedFor memoryGoal s = true := hstop.stoppedFor (g := memoryGoal) (if_pos hmem)
    rcases herr with h | h <;> simp [h, hwanted]

theorem MemoryError.waits {s : State} (h : MemoryError s.vp) :
    pursue (fun _ => false) (fun _ => memoryGoal) s = .next s := by
  rcases h with ⟨hq, -⟩ | ⟨e, k, hstop, -⟩
  · exact pursue_empty _ _ _ hq
  · exact pursue_halted hstop.halted _ _

theorem mfprVmac_reports {s : State} (h : MemoryError s.vp) (o : Operands) (orig : State) :
    mfprVmac o orig s = withReport true orig s.flushAll fun u =>
      .next (delivered (miscDraw u.draws 1).lo o (seeImp u).spend) := by
  rw [mfprVmac, h.waits, andThen_next, h.met]
  rfl

/-! ### What shows of a report -/

theorem impReported_shows {s : State} (hc : s.cfg.implementsImp = true) : ShowsImp s.vp.vpsr (impReported s) :=
  ⟨vpsr_reportImp hc s.vp, rfl, rfl, rfl, rfl⟩

section
variable {x : Long} {t : State} (h : ShowsImp x t)
include h

theorem ShowsImp.ven : t.vp.ven = false := by
  rw [Vp.ven, h.vpsr, BitVec.getLsbD_and]
  exact Bool.and_false _

theorem ShowsImp.delivered (v : Long) (o : Operands) : ShowsImp x (delivered v o t) := by
  obtain ⟨h1, h2, h3, h4, h5⟩ := h
  rw [delivered_frame]
  exact ⟨h1, h2, h3, h4, h5⟩

theorem ShowsImp.vpsrSeen : ShowsImp x (vpsrSeen t) := by
  have hkeeps : (Machine.vpsrSeen t).vp.vpsr = t.vp.vpsr ∧ (Machine.vpsrSeen t).vp.hwMem = t.vp.hwMem ∧
      (Machine.vpsrSeen t).vp.hwOp = t.vp.hwOp ∧ (Machine.vpsrSeen t).vp.flushOnEnable = t.vp.flushOnEnable := by
    rw [vpsrSeen_vp]
    split <;> exact ⟨rfl, rfl, rfl, rfl⟩
  have hven : (Machine.vpsrSeen t).cpu.venSeen = false := (congrArg Scalar.venSeen (vpsrSeen_cpu t)).trans h.ven
  obtain ⟨hvpsr, hmem, hop, hflush⟩ := hkeeps
  exact ⟨hvpsr.trans h.vpsr, hven, hmem.trans h.hwMem, hop.trans h.hwOp, hflush.trans h.flush⟩

theorem ShowsImp.seeImp : ShowsImp x (seeImp t).spend := by
  have hvp := seeImp_vp t
  have hven : (Machine.seeImp t).cpu.venSeen = false := by rw [seeImp_venSeen, h.venSeen, Bool.false_and]
  obtain ⟨h1, -, h3, h4, h5⟩ := h
  exact ⟨(congrArg Vp.vpsr hvp).trans h1, hven, (congrArg Vp.hwMem hvp).trans h3, (congrArg Vp.hwOp hvp).trans h4,
    (congrArg Vp.flushOnEnable hvp).trans h5⟩

/-- In what MFPR from VPSR then delivers IMP is set, BSY and VEN are clear. -/
theorem ShowsImp.image : (t.vp.vpsrImage false).getLsbD 24 = true ∧ (t.vp.vpsrImage false).getLsbD 31 = false ∧
    (t.vp.vpsrImage false).getLsbD 0 = false := by
  have hbits (i : Nat) : (t.vp.vpsr &&& 0x030000E1).getLsbD i =
      ((x.getLsbD i || (0x01000000 : Long).getLsbD i) && (~~~(1 : Long)).getLsbD i && (0x030000E1 : Long).getLsbD i) := by
    rw [h.vpsr]
    simp only [BitVec.getLsbD_and, BitVec.getLsbD_or]
  simp only [getLsbD_vpsrImage, hbits]
  exact ⟨by simp, rfl, by simp⟩

end

end Sys2Proof.Machine
end

section
/-! Hardware errors: MFPR reports them (R430 to R432), and the next enable finds the queue flushed (R423). -/

namespace Sys2Proof.Machine

/-! ### The two reports -/

/-- IMP is set, BSY and VEN are clear in what MFPR delivered. -/
def ImageShowsImp (v : Long) : Prop := v.getLsbD 24 = true ∧ v.getLsbD 31 = false ∧ v.getLsbD 0 = false

/-- MFPR reports a hardware error in a state that shows the registers as they were, and goes on as `f` says. -/
structure ReportsIn (s : State) (o : Operands) (out : Out) (w : State) (f : State → Out) : Prop where
  out_eq : out = withReport true { s with draws := o.state.draws } w f
  cfg : w.cfg = s.cfg
  pc : w.cpu.pc = s.cpu.pc
  psl : w.cpu.psl = s.cpu.psl
  vpsr : w.vp.vpsr = s.vp.vpsr
  shows : s.cfg.implementsImp = true → ∃ t, f (impReported w) = .next t ∧ ShowsImp s.vp.vpsr t ∧
    ∀ n, (o.value 0).lo = 0x90 → o.dest 1 = .register n → n ≠ 15 → ImageShowsImp (t.cpu.readReg n 0)

section
variable {a d : Spec} {s : State} {o : Operands} (ho : evalOperands 1 [.rl, .wl] [a, d] s = .ok o) (hm : s.mode = 0)
  (hp : s.cfg.vpPresent = true)
include ho hm hp

theorem reportsIn_vpsr (h90 : (o.value 0).lo = 0x90) (h : OperateError s.vp) :
    ∃ w f, ReportsIn s o (execMfpr a d s) w f := by
  obtain ⟨hcfg, hvp, -, -, -, -, -, hpsl, -, hpc, -⟩ := (evalOperands_frame _ _ _ _ _ ho).fields
  have h' : OperateError o.state.vp := hvp.symm ▸ h
  have hframe := completeMtpr_frame o.state
  have hstopped := h'.completeMtpr.stopped
  have hexec := (execMfpr_vpsr ho hm h90 hp).trans (mfprVpsr_reports h' o _)
  generalize completeMtpr o.state = w at hframe hstopped hexec
  have hwcfg : w.cfg = s.cfg := (congrArg State.cfg hframe).trans hcfg
  have hwvpsr : w.vp.vpsr = s.vp.vpsr := by rw [hframe, ← hvp]
  refine ⟨w, _, hexec, hwcfg, (congrArg (·.cpu.pc) hframe).trans hpc, (congrArg (·.cpu.psl) hframe).trans hpsl, hwvpsr,
    fun himp => ?_⟩
  have hshows : ShowsImp s.vp.vpsr (impReported w) := hwvpsr ▸ impReported_shows (by rw [hwcfg]; exact himp)
  have hbusy : busy (impReported w) = false := busy_impReported hstopped
  refine ⟨_, rfl, hshows.vpsrSeen.delivered _ _, fun n _ hd hn => ?_⟩
  rw [delivered_register _ _ _ hd hn, hbusy]
  exact hshows.image

theorem reportsIn_vmac (h92 : (o.value 0).lo = 0x92) (h : MemoryError s.vp) :
    ∃ w f, ReportsIn s o (execMfpr a d s) w f := by
  obtain ⟨hcfg, hvp, -, -, -, -, -, hpsl, -, hpc, -⟩ := (evalOperands_frame _ _ _ _ _ ho).fields
  have h' : MemoryError o.state.vp := hvp.symm ▸ h
  have hvmac : execMfpr a d s = mfprVmac o { s with draws := o.state.draws } o.state := by
    rw [execMfpr_kernel ho hm, h92]
    exact if_pos hp
  have hvpsr : o.state.flushAll.vp.vpsr = s.vp.vpsr := (congrArg Vp.vpsr hvp :)
  refine ⟨_, _, hvmac.trans (mfprVmac_reports h' o _), hcfg, hpc, hpsl, hvpsr, fun himp => ?_⟩
  have hshows : ShowsImp s.vp.vpsr (impReported o.state.flushAll) :=
    hvpsr ▸ impReported_shows (by rw [State.flushAll_cfg, hcfg]; exact himp)
  exact ⟨_, rfl, hshows.seeImp.delivered _ _, fun n h90 => absurd (h90.symm.trans h92) (by decide)⟩

end

/-! ### An instruction that is given up before it has executed anything -/

/-- An instruction that takes a control word, accesses no memory and has executed nothing, given up before element `k`. -/
structure LeftAlone (e : QEntry) (k : Fin 64) : Prop where
  usesLength : e.op.usesLength = true
  noMemory : e.op.isMemory = false
  copy : e.copy = none
  done : e.done = 0
  count : e.count = none
  left : e.left.getLsbD k = true

/-- An instruction that has executed nothing of an active element is given up before that element (R354). -/
theorem leftAlone_givenUp {e : QEntry} {p : Vp} {k : Fin 64} (hu : e.op.usesLength = true) (hm : e.op.isMemory = false)
    (hcopy : e.copy = none) (hdone : e.done = 0) (hcount : e.count = none) (hactive : e.isActive p.vmr k = true)
    (chaining : Bool) :
    LeftAlone (givenUp chaining ⟨p, {}⟩ p e) k := by
  have hopen : e.left.getLsbD k = false → (View.openElems ⟨p, {}⟩ e).getLsbD k = true := fun hleft => by
    rw [getLsbD_openElems, sees_none hcopy, hactive, hdone, hleft, decide_eq_true k.isLt]
    simp
  cases hc : View.complete ⟨p, {}⟩ e with
  | true =>
    have hnone : View.openElems ⟨p, {}⟩ e = 0 := of_decide_eq_true hc
    have hleft : e.left.getLsbD k = true := by
      cases h : e.left.getLsbD k with
      | true => rfl
      | false => exact absurd (hopen h) (by rw [hnone]; simp)
    rw [givenUp, hc, if_pos rfl]
    exact ⟨hu, hm, hcopy, hdone, hcount, hleft⟩
  | false =>
    have hhalt : givenUp chaining ⟨p, {}⟩ p e = e.halt chaining ⟨p, {}⟩ := by
      rw [givenUp, hc, if_neg nofun]
      split
      · rename_i hop
        rw [hop] at hm
        cases hm
      · rename_i hop
        rw [hop] at hu
        cases hu
      · rfl
    have hleft : (e.halt chaining ⟨p, {}⟩).left.getLsbD k = true := by
      show (e.left ||| View.openElems ⟨p, {}⟩ e).getLsbD k = true
      rw [BitVec.getLsbD_or]
      cases h : e.left.getLsbD k with
      | true => rfl
      | false => exact hopen h
    rw [hhalt]
    refine ⟨hu, hm, ?_, hdone, hcount, hleft⟩
    show e.copy.map _ = none
    rw [hcopy]
    rfl

/-- Only memory instructions change what MSYNC is to report (R357). -/
theorem settleOn_taint_mem {e : QEntry} (hu : e.op.usesLength = true) (hm : e.op.isMemory = false) (s p : Vp) :
    (e.settleOn s p).taint.mem = p.taint.mem := by
  obtain ⟨op, _⟩ := e
  cases op
  case load | store => cases hm
  case mtvp | vsync => cases hu
  all_goals rfl

/-- Of the instructions that take a control word only compares change what VMR depends on (R194). -/
theorem settleOn_taint_vmr {e : QEntry} (hu : e.op.usesLength = true) (hw : e.op.writesMask = false) (s p : Vp) :
    (e.settleOn s p).taint.vmr = p.taint.vmr := by
  obtain ⟨op, _⟩ := e
  cases op
  case intCompare | floatCompare => cases hw
  case mtvp | vsync => cases hu
  all_goals rfl

/-- Of the instructions that take a control word only IOTA changes what VCR depends on (R196). -/
theorem settleOn_taint_vcr {e : QEntry} (hu : e.op.usesLength = true) (s p : Vp) :
    (e.settleOn s p).taint.vcr = if e.op = .iota then e.taintCount s p else p.taint.vcr := by
  obtain ⟨op, _⟩ := e
  cases op
  case mtvp | vsync => cases hu
  all_goals rfl

section
variable {e : QEntry} {k : Fin 64} (h : LeftAlone e k)
include h

theorem LeftAlone.sameRegister : e.sameRegister = false := sameRegister_of_not_memory e h.noMemory h.usesLength

/-- An element that an instruction was given up before depends on what it depended on (R354). -/
theorem LeftAlone.getLsbD_taintDest (seen : Vp) (old : Quad) : (e.taintDest seen old).getLsbD k = old.getLsbD k := by
  have hwritten : e.written.getLsbD k = false := by
    rw [written_eq e h.sameRegister, h.done]
    simp
  rw [QEntry.taintDest, getLsbD_maskOf, h.left, hwritten]
  simp

theorem LeftAlone.tainted_settle (p : Vp) (r : BitVec 4) : (e.settle p).tainted r k = p.tainted r k := by
  rw [settle_none h.copy]
  by_cases hr : e.op.writesReg = false ∨ r ≠ fieldC e.cntrl
  · exact tainted_settleOn_other e p p k hr
  · obtain ⟨hw, hrc⟩ := not_or.mp hr
    rw [not_not.mp hrc, Vp.tainted, taint_settleOn e p p (Bool.eq_true_of_not_eq_false hw)]
    exact h.getLsbD_taintDest p _

theorem LeftAlone.taint_vmr_settle (p : Vp) : (e.settle p).taint.vmr.getLsbD k = p.taint.vmr.getLsbD k := by
  rw [settle_none h.copy]
  cases hw : e.op.writesMask with
  | true => rw [taint_settleOn_mask e p p hw, h.getLsbD_taintDest]
  | false => rw [settleOn_taint_vmr h.usesLength hw]

theorem LeftAlone.vcr_settle (p : Vp) : (e.settle p).vcr = p.vcr := by
  rw [settle_none h.copy, vcr_settleOn p p h.usesLength, h.count]
  exact ite_self _

theorem LeftAlone.taint_vcr_settle (p : Vp) : (e.settle p).taint.vcr = p.taint.vcr := by
  have hleft : e.left ≠ 0 := fun h0 => by
    have hbit := h.left
    rw [h0] at hbit
    simp at hbit
  have hcount : e.taintCount p p = p.taint.vcr := by
    rw [QEntry.taintCount, h.count, decide_eq_true hleft]
    rfl
  rw [settle_none h.copy, settleOn_taint_vcr h.usesLength, hcount]
  exact ite_self _

end

/-- Element and mask bit `k`, VCR and what they depend on are as before, and so is what MSYNC is to report. -/
structure SameAt (k : Fin 64) (p q : Vp) : Prop where
  elems : ∀ r, q.elem r k = p.elem r k ∧ q.tainted r k = p.tainted r k
  vmr : q.vmr.getLsbD k = p.vmr.getLsbD k
  taintMask : q.taint.vmr.getLsbD k = p.taint.vmr.getLsbD k
  vcr : q.vcr = p.vcr
  taintCount : q.taint.vcr = p.taint.vcr
  mem : q.taint.mem = p.taint.mem

theorem LeftAlone.sameAt_settle {e : QEntry} {k : Fin 64} (h : LeftAlone e k) (p : Vp) : SameAt k p (e.settle p) where
  elems r := ⟨elem_settle_untouched h.copy h.done p k (.inr h.sameRegister), h.tainted_settle p r⟩
  vmr := by rw [vmr_settle_untouched h.copy h.done h.usesLength]
  taintMask := h.taint_vmr_settle p
  vcr := h.vcr_settle p
  taintCount := h.taint_vcr_settle p
  mem := by rw [settle_none h.copy, settleOn_taint_mem h.usesLength h.noMemory]

/-- Giving up an instruction that has executed nothing leaves an active element of it as it was (R354). -/
theorem sameAt_giveUp {e : QEntry} {p : Vp} {k : Fin 64} (hu : e.op.usesLength = true) (hm : e.op.isMemory = false)
    (hcopy : e.copy = none) (hdone : e.done = 0) (hcount : e.count = none) (hactive : e.isActive p.vmr k = true)
    (chaining : Bool) : SameAt k p (giveUp chaining p (⟨p, {}⟩, e)) := by
  obtain ⟨helems, hvmr, hmask, hvcr, hvcrt, hmem⟩ :=
    (leftAlone_givenUp hu hm hcopy hdone hcount hactive chaining).sameAt_settle p
  have hmoved : e.movedTainted = false := by rw [QEntry.movedTainted, hm]; rfl
  have hlast : (giveUp chaining p (⟨p, {}⟩, e)).taint.mem =
      (((givenUp chaining ⟨p, {}⟩ p e).settle p).taint.mem || e.movedTainted) := rfl
  exact ⟨helems, hvmr, hmask, hvcr, hvcrt, by rw [hlast, hmem, hmoved, Bool.or_false]⟩

theorem sameAt_discardPending {s : State} {e : QEntry} {k : Fin 64} (hq : s.vp.queue = [e]) (hcopy : e.copy = none)
    (h : SameAt k s.vp (giveUp s.cfg.chaining s.vp (⟨s.vp, {}⟩, e))) : SameAt k s.vp (discardPending s) := by
  rw [discardPending_single hq, viewAt_zero s hcopy]
  generalize giveUp s.cfg.chaining s.vp (⟨s.vp, {}⟩, e) = q at h
  obtain ⟨helems, hvmr, hmask, hvcr, hvcrt, hmem⟩ := h
  exact ⟨helems, hvmr, hmask, hvcr, hvcrt, hmem⟩

/-- An enable after a report of a hardware error finds the queue flushed (R423). -/
theorem writeVen_flush {s : State} (hf : s.vp.flushOnEnable = true) :
    writeVen true s = s.setVp { (discardPending s).setVpsr 0 true with
      flushOnEnable := false, halted := false, impUnseen := false } := by
  rw [writeVen, hf]
  simp only [Bool.and_self, if_true, Bool.not_true, Bool.and_false]
  rfl

end Sys2Proof.Machine
namespace Sys2Proof

open Machine

/-- Settles O57: an MFPR reports in one state for both registers (`ReportsIn`); the flush gives up what is pending. -/
theorem hardwareErrors : Obligations.HardwareErrors := by
  refine ⟨fun a d s o ho hm hp herr => ?_, fun a b s o ho hm hp h90 h1 hf => ?_⟩
  · have hreport : ∃ w f, ReportsIn s o (execMfpr a d s) w f := by
      rcases herr with ⟨hq, ⟨h92, hmem⟩ | ⟨h90, hop⟩⟩ |
        ⟨hh, herr, e, k, hq, hfault, hcopy, hl, hactive, hdone, hleft, ⟨h92, hmem⟩ | ⟨h90, hmem⟩⟩
      · exact reportsIn_vmac ho hm hp h92 (.inl ⟨hq, hmem⟩)
      · exact reportsIn_vpsr ho hm hp h90 (.inl ⟨hq, hop⟩)
      · exact reportsIn_vmac ho hm hp h92 (.inr ⟨e, k, ⟨hh, hq, hfault, hcopy, hl, hactive, hdone, hleft⟩, herr, hmem⟩)
      · exact reportsIn_vpsr ho hm hp h90 (.inr ⟨e, k, ⟨hh, hq, hfault, hcopy, hl, hactive, hdone, hleft⟩, herr, hmem⟩)
    obtain ⟨w, f, hout, hcfg, hpc, hpsl, hvpsr, hshows⟩ := hreport
    refine ⟨fun hc himp => ?_, fun hc => ?_⟩
    · obtain ⟨t, ht, ⟨h1, h2, h3, h4, h5⟩, himage⟩ := hshows himp
      exact ⟨t, hout.trans ((withReport_imp (by rw [hcfg]; exact hc) _ f).trans ht), h1, h2, h3, h4, h5, himage⟩
    · exact ⟨_, hout.trans (withReport_machineCheck (by rw [hcfg]; exact hc) _ f), hpc, hpsl, rfl, hvpsr, rfl, rfl⟩
  · have hregs := evalOperands_frame _ _ _ _ _ ho
    obtain ⟨ht, -⟩ := finishIpr_frame hregs 1 o.next
    have hexec := execMtpr_flags ho hm h90 hp (by rw [h1]; decide)
    have hclear : ∀ u : State, clearBits 1 u = u :=
      fun u => clearBits_none (by decide) (by decide) (by decide) (by decide) (by decide) u
    have hven : (1 : Long).getLsbD 0 = true := rfl
    rw [h1, hclear, hven] at hexec
    generalize finishIpr 1 o.next o.state = u at ht hexec
    have hdiscard : discardPending u = discardPending s := by rw [ht]; rfl
    have hflush := writeVen_flush (s := u) (by rw [ht]; exact hf)
    rw [hflush, hdiscard] at hexec
    refine ⟨_, hexec, ?_, ?_, rfl, rfl,
      fun e k hq hu hmem hcopy hdone hcount hactive => ?_⟩
    · show (setBit _ 0 true).getLsbD 0 = true
      rw [getLsbD_setBit _ (by decide), if_pos rfl]
    · rfl
    · obtain ⟨helems, hvmr, hmask, hvcr, hvcrt, hmem⟩ :=
        sameAt_discardPending hq hcopy (sameAt_giveUp hu hmem hcopy hdone hcount hactive s.cfg.chaining)
      exact ⟨helems, hvmr, hmask, hvcr, hvcrt, hmem⟩

end Sys2Proof
end
